-- ==== Sys2Proof/Word.lean ====
section
/-! DEFINITION. The byte and the byte sequence (R6, R7 of spec/00_scope.md). -/

namespace Sys2Proof

/-- A byte: 8 bits, bit 0 the least significant (R6). -/
abbrev Byte := BitVec 8

/-- A byte sequence; element 0 is sent, or received, first (R7, R53). An absent sequence is `none : Option Bytes`. -/
abbrev Bytes := List Byte

end Sys2Proof
end

