-- ==== Sys2Proof/Config.lean ====
section
/-! DEFINITION. What an implementation fixes (the parameters of R5 and the constants of R29, spec/00_scope.md and
spec/10_state.md), the parameters the spec leaves OPEN, and the free value of the model: what the channel answers
to a receive. An OPEN parameter is an opaque constant, so no proof can use a value of it. -/

namespace Sys2Proof

namespace Config

/-! ### Protocol constants (R5, R29; taken as written, U12, log entry 26) -/

/-- Start marker. -/
@[simp] abbrev STX : Byte := 0x02#8
/-- End marker. -/
@[simp] abbrev ETX : Byte := 0x03#8
/-- Acknowledge: the device may produce it, the block never decodes it (R80). -/
@[simp] abbrev ACK : Byte := 0x06#8
/-- Not-acknowledge: never decoded (R80). -/
@[simp] abbrev NAK : Byte := 0x15#8
/-- Escape: reserved, used in no frame (R67, R80). -/
@[simp] abbrev ESC : Byte := 0x1B#8
/-- The padding byte of format P (R71, R79). -/
@[simp] abbrev PAD : Byte := 0x00#8

/-- The command bytes (R72). -/
@[simp] abbrev CMD_JOG : Byte := 0x31#8
@[simp] abbrev CMD_COORDINATE : Byte := 0x33#8
@[simp] abbrev CMD_ABSOLUTE_ZERO : Byte := 0x35#8
@[simp] abbrev CMD_HOME : Byte := 0x36#8
@[simp] abbrev CMD_RETRIEVE : Byte := 0x40#8
@[simp] abbrev CMD_SAVE : Byte := 0x42#8

/-- The SignedShort range (R5, R120). -/
@[simp] abbrev SS_MIN : Int := -32768
@[simp] abbrev SS_MAX : Int := 32767
/-- The PresetIndex range (R5, R147). -/
@[simp] abbrev PRESET_MIN : Int := 0
@[simp] abbrev PRESET_MAX : Int := 31
/-- The device's "do not move this axis" value; no rule of the block treats it apart (R148). -/
@[simp] abbrev NO_MOVE : Int := 9999
/-- The longest frame the framer builds (R5, R73), which is the size of `TXBUF` (R24). -/
@[simp] abbrev TX_MAX : Nat := 10
/-- The width of an integer argument port (R5, R21; the spec's decision D3, log entry 7). -/
abbrev ARG_W : Nat := 32

/-! ### OPEN parameters (R5; log entries 5 and 6) -/

/-- `RX_MAX` less one. OPEN (D9): no value is assumed. -/
opaque rxMaxPred : Nat

/-- `maxBytes` of the single receive, at least 1 (R5, R26). -/
def RX_MAX : Nat := rxMaxPred + 1

/-- `TMO_W` less one. OPEN (D10). That a register has at least one bit is a DESIGN CHOICE, log entry 5. -/
opaque tmoWidthPred : Nat

/-- The width of the timeout register (R28). -/
def TMO_W : Nat := tmoWidthPred + 1

/-- Which bit positions the three jog flags have, OPEN (D6): the position of one-shot-lock among 8, of stop among the 7 left,
of reset among the 6 left. `JogMasks.ofChoice` of Machine/Flags.lean reads it. -/
opaque jogBitChoice : Fin 8 × Fin 7 × Fin 6

/-! ### Switches the spec names with their default (log entry 17) -/

/-- `JOG_VALIDATES_ARGS` of U2, spec/93_implementation_defined.md: the unused arguments of getStatusJog are range-checked.
Default false (D8). -/
def JOG_VALIDATES_ARGS : Bool := false

/-- `EMPTY_REPLY_IS_ERROR` of U7: a successful read of zero bytes is taken as `ReceiveFailed`. Default false (D26). -/
def EMPTY_REPLY_IS_ERROR : Bool := false

end Config

/-- What the channel answers to `ChSend` (R9, R174). Of a failed send, `delivered` says how long a prefix of the frame reached
the PTR all the same: any number, which the block cannot see (R57, U6). -/
inductive SendAnswer where
  | ok
  | failed (delivered : Nat)
  deriving DecidableEq, Repr, Inhabited

/-- What the channel answers to `ChRecv` (R9, R175). -/
inductive RecvAnswer where
  | ok (bytes : Bytes)
  | receiveFailed
  | timeout
  deriving DecidableEq, Repr, Inhabited

/-- FREE VALUE: the answer to a receive for which State lists none, by the number of the draw and the timeout `TMO` handed to the
channel (R177: "every `ChRecv` is answered", and which answer comes back "is a free draw"; log entry 3). -/
opaque Config.recvAnswer : Nat → BitVec Config.TMO_W → RecvAnswer

end Sys2Proof
end

