-- ==== Sys2Proof/Syntax.lean ====
section
/-! DEFINITION. The instructions: one constructor per row of spec/opcode_table.json (R1, R72, R86), the request tuple that selects
a command (R21, R87), the inputs of the three unit ports (R87), and the names of the errors (R200). -/

namespace Sys2Proof

/-- An integer argument port: `ARG_W` bits, two's complement (R21). -/
abbrev Arg := BitVec Config.ARG_W

/-- The three booleans of `FL` (R21). Their positions inside `FL` are not architectural: no rule reads `FL` as a number. -/
structure JogFlags where
  osl : Bool
  stop : Bool
  reset : Bool
  deriving DecidableEq, Repr

/-- The results of R200: `ok` and the eight errors. -/
inductive ErrCode where
  | ok
  | outOfRange
  | presetOutOfRange
  | invalidInput
  | connectFailed
  | sendFailed
  | receiveFailed
  | timeout
  | illegalCommand
  deriving DecidableEq, Repr

/-- A request on the host port: the five operand registers' new values (R21, R171). -/
structure Request where
  op : Byte
  a0 : Arg
  a1 : Arg
  a2 : Arg
  fl : JogFlags
  deriving DecidableEq, Repr

/-- One use of the LRC unit (R100 to R103; log entry 13). -/
inductive LrcInput where
  /-- `computeLRC` of a whole sequence, `none` the absent one (R100, R102). -/
  | span (bytes : Option Bytes)
  /-- One step of the ports `lrc_clear`, `lrc_en`, `lrc_in` (R103): `LRC_CLEAR` is `drive true false _`, `LRC_ACC b` is
  `drive false true b`. -/
  | drive (clear en : Bool) (b : Byte)
  /-- `LRC_READ` with the level `span_present` (R102, R103). -/
  | read (present : Bool)
  deriving DecidableEq, Repr

/-- What a host can present on the ports of the stand-alone units (R87, D2). -/
inductive UnitRequest where
  | lrc (input : LrcInput)
  | encode (v : Arg)
  | decode (lo hi : Byte)
  deriving DecidableEq, Repr

/-- The instructions. A command's fields are what its frame carries: getStatusJog's `pan`, `tilt` and the value of a `speed`
that is not 0 reach no frame (R22, R84), so they stand in the operand registers only (log entry 18). Arguments have the port's
full width: the range checks of R122 and R147 are part of the meaning. -/
inductive Instr where
  /-- R141, R180 with `speed` = 0 -/
  | getStatusJogSpeed0 (fl : JogFlags)
  /-- R141, R180 with `speed` not 0 -/
  | getStatusJogSpeedN (fl : JogFlags)
  /-- R143, R182 -/
  | moveToCoordinate (pan tilt : Arg)
  /-- R144, R183 -/
  | moveToAbsoluteZero
  /-- R142, R181 -/
  | moveToHome
  /-- R145, R184 -/
  | retrievePreset (index : Arg)
  /-- R146, R185 -/
  | savePreset (index : Arg)
  /-- R100 to R103 -/
  | computeLRC (input : LrcInput)
  /-- R121 -/
  | encodeSignedShort (v : Arg)
  /-- R123 -/
  | decodeSignedShort (lo hi : Byte)
  deriving DecidableEq, Repr

end Sys2Proof
end

