-- ==== Sys2Proof/Machine/Checksum.lean ====
section
/-! DEFINITION. The LRC generator as a function: spec/40_lrc.md. -/

namespace Sys2Proof.Machine

/-- One fold step, `LRC_ACC` (R103). -/
def lrcAcc (acc b : Byte) : Byte := acc ^^^ b

/-- `computeLRC` of a present sequence (R100): the bytes folded in order into 0x00. -/
def lrc (s : Bytes) : Byte := s.foldl lrcAcc 0#8

/-- `computeLRC` (R100, R102): the absent sequence has no checksum. -/
def computeLRC : Option Bytes → Except ErrCode Byte
  | none => .error .invalidInput
  | some s => .ok (lrc s)

end Sys2Proof.Machine
end

