-- ==== Sys2Proof/Machine/Flags.lean ====
section
/-! DEFINITION. The flag computation of the block: `flagsByte` of getStatusJog (R77). There are no condition codes (R34). The three
masks are OPEN (D6): the functions take them as an argument, and `jogMasks` is the opaque assignment the machine uses. -/

namespace Sys2Proof.Machine

/-- The masks `M_OSL`, `M_STOP`, `M_RESET`. -/
structure JogMasks where
  osl : Byte
  stop : Byte
  reset : Byte
  deriving DecidableEq, Repr

/-- The byte with exactly bit `k` set. -/
def bitMask (k : Nat) : Byte := BitVec.twoPow 8 k

/-- The `k`-th bit position not among `used`, counting from 0. -/
def freeBit (used : List Nat) (k : Nat) : Nat :=
  ((List.range 8).filter (fun i => !used.contains i)).getD k 0

/-- Three masks with one bit each, pairwise different, from a choice of positions; every such assignment has its choice
(`jogMasks_every_assignment` of Laws/Flags.lean). -/
def JogMasks.ofChoice (c : Fin 8 × Fin 7 × Fin 6) : JogMasks :=
  let p := c.1.val
  let q := freeBit [p] c.2.1.val
  let r := freeBit [p, q] c.2.2.val
  ⟨bitMask p, bitMask q, bitMask r⟩

/-- What R77 and D6 say of the masks: each a byte with exactly one bit set, pairwise different. -/
def JogMasks.admissible (m : JogMasks) : Bool :=
  let single (b : Byte) : Bool := (List.range 8).any (fun k => b == bitMask k)
  single m.osl && single m.stop && single m.reset && (m.osl != m.stop) && (m.osl != m.reset) && (m.stop != m.reset)

/-- The masks of this machine: OPEN. -/
def jogMasks : JogMasks := JogMasks.ofChoice Config.jogBitChoice

/-- `flagsByte` (R77): the bitwise OR of the masks of the flags that are set. -/
def flagsByte (m : JogMasks) (fl : JogFlags) : Byte :=
  (if fl.osl then m.osl else 0#8) ||| (if fl.stop then m.stop else 0#8) ||| (if fl.reset then m.reset else 0#8)

/-- The flags read back from a `flagsByte`, when it has no bit outside the masks (R84). The byte 0x00 stands first: it is no flag
set whatever the masks are ("when none are set the byte is 0x00", R77). -/
def readFlags (m : JogMasks) (b : Byte) : Option JogFlags :=
  if b = 0#8 then
    some ⟨false, false, false⟩
  else if b &&& ~~~(m.osl ||| m.stop ||| m.reset) = 0#8 then
    some ⟨b &&& m.osl != 0#8, b &&& m.stop != 0#8, b &&& m.reset != 0#8⟩
  else
    none

end Sys2Proof.Machine
end

