-- ==== Sys2Proof/Machine/Operands.lean ====
section
/-! DEFINITION. The operand forms: SignedShort (spec/41_signed_short.md), PresetIndex (R78, R147), and the numbers of the error
codes (R200). -/

namespace Sys2Proof.Machine

/-- `encodeSignedShort` (R121, R122, R126): an error outside [-32768, 32767], else low byte and high byte of `v mod 65536`. -/
def encodeSignedShort (v : Int) : Except ErrCode (Byte × Byte) :=
  if v > Config.SS_MAX ∨ v < Config.SS_MIN then
    .error .outOfRange
  else
    let u := (v % 65536).toNat
    .ok (BitVec.ofNat 8 u, BitVec.ofNat 8 (u / 256))

/-- `decodeSignedShort` (R123). -/
def decodeSignedShort (lo hi : Byte) : Int :=
  let u := hi.toNat * 256 + lo.toNat
  if u ≥ 32768 then (u : Int) - 65536 else u

/-- The port `dec_v`: the decoded value on `ARG_W` bits (R123). -/
def decPort (lo hi : Byte) : Arg := BitVec.ofInt Config.ARG_W (decodeSignedShort lo hi)

/-- The presetIndex byte of an argument, after the range check on the whole signed value (R78, R147). -/
def presetByte (index : Arg) : Except ErrCode Byte :=
  if index.toInt < Config.PRESET_MIN ∨ index.toInt > Config.PRESET_MAX then
    .error .presetOutOfRange
  else
    .ok (index.extractLsb' 0 8)

/-- The number of a result in `STATUS.ERR` (R200; the spec's own numbers, D5). -/
def errNumber : ErrCode → BitVec 4
  | .ok => 0
  | .outOfRange => 1
  | .presetOutOfRange => 2
  | .invalidInput => 3
  | .connectFailed => 4
  | .sendFailed => 5
  | .receiveFailed => 6
  | .timeout => 7
  | .illegalCommand => 8

/-- The input class of R214: codes 1, 2, 3 and 8. -/
def isInputError : ErrCode → Bool
  | .outOfRange => true
  | .presetOutOfRange => true
  | .invalidInput => true
  | .illegalCommand => true
  | .ok => false
  | .connectFailed => false
  | .sendFailed => false
  | .receiveFailed => false
  | .timeout => false

/-- The link class of R214: codes 4, 5, 6 and 7. -/
def isLinkError : ErrCode → Bool
  | .connectFailed => true
  | .sendFailed => true
  | .receiveFailed => true
  | .timeout => true
  | .ok => false
  | .outOfRange => false
  | .presetOutOfRange => false
  | .invalidInput => false
  | .illegalCommand => false

/-- The `SENT` column of R200 for a transaction's ending: 1 exactly when the `ChSend` was attempted. -/
def sentColumn : ErrCode → Bool
  | .ok => true
  | .sendFailed => true
  | .receiveFailed => true
  | .timeout => true
  | .outOfRange => false
  | .presetOutOfRange => false
  | .invalidInput => false
  | .connectFailed => false
  | .illegalCommand => false

end Sys2Proof.Machine
end

