-- ==== Sys2Proof/WellFormed.lean ====
section
/-! DEFINITION. Which instructions have a frame (R82 (f), (g), R120, R147): both coordinates in the SignedShort range, the preset
index in [0, 31]. The unit operations take every input of their ports. An instruction that is not well formed still runs: it ends
in the error the spec names. -/

namespace Sys2Proof

/-- The SignedShort range, on the whole signed value (R120, R122). -/
def inSignedShort (v : Int) : Bool := decide (Config.SS_MIN ≤ v) && decide (v ≤ Config.SS_MAX)

/-- The PresetIndex range, on the whole signed value (R147). -/
def inPreset (v : Int) : Bool := decide (Config.PRESET_MIN ≤ v) && decide (v ≤ Config.PRESET_MAX)

/-- The arguments of the instruction can be represented in its frame. -/
def Instr.wellFormed : Instr → Bool
  | .getStatusJogSpeed0 _ => true
  | .getStatusJogSpeedN _ => true
  | .moveToCoordinate pan tilt => inSignedShort pan.toInt && inSignedShort tilt.toInt
  | .moveToAbsoluteZero => true
  | .moveToHome => true
  | .retrievePreset index => inPreset index.toInt
  | .savePreset index => inPreset index.toInt
  | .computeLRC _ => true
  | .encodeSignedShort _ => true
  | .decodeSignedShort _ _ => true

/-- The instruction is one of the device commands, which are selected through `OP` (R87); the others are the unit operations. -/
def Instr.isCommand : Instr → Bool
  | .getStatusJogSpeed0 _ => true
  | .getStatusJogSpeedN _ => true
  | .moveToCoordinate _ _ => true
  | .moveToAbsoluteZero => true
  | .moveToHome => true
  | .retrievePreset _ => true
  | .savePreset _ => true
  | .computeLRC _ => false
  | .encodeSignedShort _ => false
  | .decodeSignedShort _ _ => false

end Sys2Proof
end

