-- ==== Sys2Proof/Decode.lean ====
section
/-! DEFINITION. The decoders and the encoders. A command reaches the block as a request tuple on the host port (`decodeRequest`, R22,
R72, R81, R87) or as a use of a unit port (`decodeUnit`); on the wire it is a frame (`decodeFrame`, the recogniser of R84, and
`encode`, the layouts of R74). The block has no frame parser: `decodeFrame` is a verdict about byte sequences, used by the
interface functions of Machine/Step.lean and by the round-trip laws. -/

namespace Sys2Proof

/-! ### The host port -/

/-- The command a request selects (R22, R72, R81); `none` for the 250 unlisted command bytes. GetStatusJog's frame shape is selected
by the test `A2 = 0` (R141); operands a command does not bind are ignored (R22). -/
def decodeRequest (r : Request) : Option Instr :=
  if r.op = Config.CMD_JOG then
    if r.a2 = 0 then some (.getStatusJogSpeed0 r.fl) else some (.getStatusJogSpeedN r.fl)
  else if r.op = Config.CMD_COORDINATE then some (.moveToCoordinate r.a0 r.a1)
  else if r.op = Config.CMD_ABSOLUTE_ZERO then some .moveToAbsoluteZero
  else if r.op = Config.CMD_HOME then some .moveToHome
  else if r.op = Config.CMD_RETRIEVE then some (.retrievePreset r.a0)
  else if r.op = Config.CMD_SAVE then some (.savePreset r.a0)
  else none

/-- A request that selects the command, its bound operands as R22 binds them. An operand the command ignores is 0, and a `speed` that
need only differ from 0 is 1: any other value gives the same frame (log entry 19). -/
def encodeRequest : Instr → Option Request
  | .getStatusJogSpeed0 fl => some ⟨Config.CMD_JOG, 0, 0, 0, fl⟩
  | .getStatusJogSpeedN fl => some ⟨Config.CMD_JOG, 0, 0, 1, fl⟩
  | .moveToCoordinate pan tilt => some ⟨Config.CMD_COORDINATE, pan, tilt, 0, ⟨false, false, false⟩⟩
  | .moveToAbsoluteZero => some ⟨Config.CMD_ABSOLUTE_ZERO, 0, 0, 0, ⟨false, false, false⟩⟩
  | .moveToHome => some ⟨Config.CMD_HOME, 0, 0, 0, ⟨false, false, false⟩⟩
  | .retrievePreset index => some ⟨Config.CMD_RETRIEVE, index, 0, 0, ⟨false, false, false⟩⟩
  | .savePreset index => some ⟨Config.CMD_SAVE, index, 0, 0, ⟨false, false, false⟩⟩
  | .computeLRC _ => none
  | .encodeSignedShort _ => none
  | .decodeSignedShort _ _ => none

/-! ### The unit ports -/

/-- The unit operation a use of a unit port is (R87, R103, R121, R123). -/
def decodeUnit : UnitRequest → Instr
  | .lrc input => .computeLRC input
  | .encode v => .encodeSignedShort v
  | .decode lo hi => .decodeSignedShort lo hi

/-! ### The wire: decoding a frame (R84) -/

/-- Why a byte sequence is "not a frame of this block" (R84: a verdict, not an error of the block). -/
inductive FrameError where
  | tooShort
  | noStart
  | noEnd
  | notACommand
  | wrongLength
  | badConstant
  | badChecksum
  | badIndex
  | badFlags
  deriving DecidableEq, Repr

/-- The tests common to every frame once its length is known: the last byte is ETX, and the byte before it is the LRC of the span,
the command byte and the payload (R75, R84). -/
def checkEnd (cmd : Byte) (payload : Bytes) (cks etx : Byte) (i : Except FrameError Instr) : Except FrameError Instr :=
  if etx ≠ Config.ETX then .error .noEnd
  else if cks ≠ Machine.lrc (cmd :: payload) then .error .badChecksum
  else i

/-- The three flags of a flagsByte, or the verdict that it has a bit outside the masks (R84). -/
def checkFlags (f : Byte) (k : JogFlags → Instr) : Except FrameError Instr :=
  match Machine.readFlags Machine.jogMasks f with
  | some fl => .ok (k fl)
  | none => .error .badFlags

/-- What follows the command byte of GetStatusJog: 7 bytes with the placeholder pair, 5 without (R74, R79). -/
def decodeJog : Bytes → Except FrameError Instr
  | [f, x0, x1, cks, etx] =>
    checkEnd Config.CMD_JOG [f, x0, x1] cks etx
      (if x0 = 0#8 ∧ x1 = 0#8 then checkFlags f .getStatusJogSpeedN else .error .badConstant)
  | [f, p0, p1, x0, x1, cks, etx] =>
    checkEnd Config.CMD_JOG [f, p0, p1, x0, x1] cks etx
      (if p0 = 0#8 ∧ p1 = 0#8 ∧ x0 = 0#8 ∧ x1 = 0#8 then checkFlags f .getStatusJogSpeed0 else .error .badConstant)
  | _ => .error .wrongLength

/-- What follows the command byte of a command without payload (R74). -/
def decodeEmpty (cmd : Byte) (i : Instr) : Bytes → Except FrameError Instr
  | [cks, etx] => checkEnd cmd [] cks etx (.ok i)
  | _ => .error .wrongLength

/-- What follows the command byte of a preset command; the index byte is at most 0x1F (R74, R78, R84). -/
def decodePreset (cmd : Byte) (k : Arg → Instr) : Bytes → Except FrameError Instr
  | [p, cks, etx] => checkEnd cmd [p] cks etx (if p ≤ 0x1F#8 then .ok (k (p.setWidth Config.ARG_W)) else .error .badIndex)
  | _ => .error .wrongLength

/-- What follows the command byte of MoveToCoordinate: two SignedShort fields, low byte first (R74, R76). -/
def decodeCoordinate : Bytes → Except FrameError Instr
  | [pl, ph, tl, th, cks, etx] =>
    checkEnd Config.CMD_COORDINATE [pl, ph, tl, th] cks etx
      (.ok (.moveToCoordinate ((ph ++ pl).signExtend Config.ARG_W) ((th ++ tl).signExtend Config.ARG_W)))
  | _ => .error .wrongLength

/-- A frame of format P, from its command byte on (R71, R84). -/
def decodePadded (cmd : Byte) (body : Bytes) : Except FrameError Instr :=
  if cmd = Config.CMD_JOG then decodeJog body
  else if cmd = Config.CMD_HOME then decodeEmpty Config.CMD_HOME .moveToHome body
  else if cmd = Config.CMD_RETRIEVE then decodePreset Config.CMD_RETRIEVE .retrievePreset body
  else .error .notACommand

/-- A frame of format N, from its command byte on (R71, R84). -/
def decodePlain (cmd : Byte) (body : Bytes) : Except FrameError Instr :=
  if cmd = Config.CMD_COORDINATE then decodeCoordinate body
  else if cmd = Config.CMD_ABSOLUTE_ZERO then decodeEmpty Config.CMD_ABSOLUTE_ZERO .moveToAbsoluteZero body
  else if cmd = Config.CMD_SAVE then decodePreset Config.CMD_SAVE .savePreset body
  else .error .notACommand

/-- The recogniser of R84: total on any bytes. -/
def decodeFrame : Bytes → Except FrameError Instr
  | stx :: b1 :: rest =>
    if stx ≠ Config.STX then .error .noStart
    else if b1 = Config.PAD then
      match rest with
      | cmd :: body => decodePadded cmd body
      | [] => .error .tooShort
    else decodePlain b1 rest
  | _ => .error .tooShort

/-! ### The wire: the frame of an instruction (R74) -/

/-- The frame of a well-formed command, byte by byte from the layout tables of R74 with the checksums R141 to R146 give; `none` for
a command whose arguments no frame can carry, and for the unit operations, which have no wire encoding (R87). -/
def encode (i : Instr) : Option Bytes :=
  if i.wellFormed then
    match i with
    | .getStatusJogSpeed0 fl =>
      let f := Machine.flagsByte Machine.jogMasks fl
      some [0x02#8, 0x00#8, 0x31#8, f, 0x00#8, 0x00#8, 0x00#8, 0x00#8, 0x31#8 ^^^ f, 0x03#8]
    | .getStatusJogSpeedN fl =>
      let f := Machine.flagsByte Machine.jogMasks fl
      some [0x02#8, 0x00#8, 0x31#8, f, 0x00#8, 0x00#8, 0x31#8 ^^^ f, 0x03#8]
    | .moveToCoordinate pan tilt =>
      let pl := pan.extractLsb' 0 8
      let ph := pan.extractLsb' 8 8
      let tl := tilt.extractLsb' 0 8
      let th := tilt.extractLsb' 8 8
      some [0x02#8, 0x33#8, pl, ph, tl, th, 0x33#8 ^^^ pl ^^^ ph ^^^ tl ^^^ th, 0x03#8]
    | .moveToAbsoluteZero => some [0x02#8, 0x35#8, 0x35#8, 0x03#8]
    | .moveToHome => some [0x02#8, 0x00#8, 0x36#8, 0x36#8, 0x03#8]
    | .retrievePreset index =>
      let p := index.extractLsb' 0 8
      some [0x02#8, 0x00#8, 0x40#8, p, 0x40#8 ^^^ p, 0x03#8]
    | .savePreset index =>
      let p := index.extractLsb' 0 8
      some [0x02#8, 0x42#8, p, 0x42#8 ^^^ p, 0x03#8]
    | .computeLRC _ => none
    | .encodeSignedShort _ => none
    | .decodeSignedShort _ _ => none
  else none

/-! ### The host's numbering of a frame's bits -/

/-- The `n` low bytes of a number, most significant first: the order in which spec/opcode_table.json writes `match` and `mask`
("leftmost byte of match/mask/encoding is frame offset 0"). -/
def bytesOfNumber : Nat → Nat → Bytes
  | 0, _ => []
  | n + 1, w => BitVec.ofNat 8 (w / 256 ^ n) :: bytesOfNumber n w

/-- The frame whose bits are `w`. The table numbers a frame as one word with offset 0 leftmost; where that reading does not begin with
STX, the frame is read with offset 0 in bits 7 to 0. A frame begins with 0x02 and ends with 0x03, so no number is a frame both
ways (log entry 19). -/
def frameOfTableWord (nbits w : Nat) : Bytes :=
  let f := bytesOfNumber (nbits / 8) w
  if f.head? = some Config.STX then f else f.reverse

/-- The instruction the frame decoder reads from the table's number of a frame (log entry 19). -/
def decodeTableWord (nbits w : Nat) : Option Instr :=
  match decodeFrame (frameOfTableWord nbits w) with
  | .ok i => some i
  | .error _ => none

end Sys2Proof
end

