-- ==== Sys2Proof/Machine/Framer.lean ====
section
/-! DEFINITION. The framer (spec/42_framer.md): the payload of each command and the general procedure of R140. It reads the operands
and the constants, and nothing else. -/

namespace Sys2Proof.Machine

/-- The pad of a command's format (R71): format P for 0x31, 0x36 and 0x40. -/
def padOf (op : Byte) : Bytes :=
  if op = Config.CMD_JOG ∨ op = Config.CMD_HOME ∨ op = Config.CMD_RETRIEVE then [Config.PAD] else []

/-- The frame around a payload (R70, R140): the span is the command byte and the payload, and the checksum is its LRC (R75). -/
def assemble (op : Byte) (payload : Bytes) : Bytes :=
  [Config.STX] ++ padOf op ++ (op :: payload) ++ [lrc (op :: payload)] ++ [Config.ETX]

/-- The payload of GetStatusJog with `speed` = 0 (R141): flagsByte, the placeholder pair, the auxiliary pair. -/
def jogPayload0 (m : JogMasks) (fl : JogFlags) : Bytes := [flagsByte m fl, 0#8, 0#8, 0#8, 0#8]

/-- The payload of GetStatusJog with `speed` not 0 (R141): flagsByte and the auxiliary pair. -/
def jogPayloadN (m : JogMasks) (fl : JogFlags) : Bytes := [flagsByte m fl, 0#8, 0#8]

/-- The validation of getStatusJog's unused arguments, off by default (U2, D8; log entry 17). -/
def jogChecked (validates : Bool) (pan tilt speed : Arg) (payload : Bytes) : Except ErrCode Bytes :=
  if validates && !(inSignedShort pan.toInt && inSignedShort tilt.toInt && inSignedShort speed.toInt) then
    .error .outOfRange
  else .ok payload

/-- The payload of MoveToCoordinate (R143): both coordinates encoded, low byte first. -/
def coordinatePayload (pan tilt : Arg) : Except ErrCode Bytes :=
  match encodeSignedShort pan.toInt, encodeSignedShort tilt.toInt with
  | .ok (pl, ph), .ok (tl, th) => .ok [pl, ph, tl, th]
  | .error e, _ => .error e
  | _, .error e => .error e

/-- The payload of RetrievePreset and SavePreset (R145, R146). -/
def presetPayload (index : Arg) : Except ErrCode Bytes :=
  match presetByte index with
  | .ok p => .ok [p]
  | .error e => .error e

/-- The payload R140 takes from the operand registers, by the command's rule R141 to R146; `IllegalCommand` before any other operand
is read (R150). -/
def payloadOf (r : Request) : Except ErrCode Bytes :=
  if r.op = Config.CMD_JOG then
    jogChecked Config.JOG_VALIDATES_ARGS r.a0 r.a1 r.a2
      (if r.a2 = 0 then jogPayload0 jogMasks r.fl else jogPayloadN jogMasks r.fl)
  else if r.op = Config.CMD_COORDINATE then coordinatePayload r.a0 r.a1
  else if r.op = Config.CMD_ABSOLUTE_ZERO then .ok []
  else if r.op = Config.CMD_HOME then .ok []
  else if r.op = Config.CMD_RETRIEVE then presetPayload r.a0
  else if r.op = Config.CMD_SAVE then presetPayload r.a0
  else .error .illegalCommand

/-- `buildFrame` (R140): a complete frame or an error, from the five operands alone. -/
def buildFrame (r : Request) : Except ErrCode Bytes :=
  match payloadOf r with
  | .ok payload => .ok (assemble r.op payload)
  | .error e => .error e

end Sys2Proof.Machine
end

