-- ==== Sys2Proof/Machine/State.lean ====
section
/-! DEFINITION. The state of the block as plain data (spec/10_state.md), the inputs it waits for, the observation of D25, and the
state after reset (R36, R240). -/

namespace Sys2Proof.Machine

/-- `PHASE` (R23). The value 3 is reserved and "a model has no constructor for it". -/
inductive Phase where
  | idle
  | send
  | wait
  deriving DecidableEq, Repr

/-- `STATUS` (R27): the fields `ERR` and `SENT`. -/
structure Status where
  err : ErrCode
  sent : Bool
  deriving DecidableEq, Repr

/-- The answer to a `ChSend` as the block sees it (R9). -/
inductive SendResult where
  | ok
  | sendFailed
  deriving DecidableEq, Repr

/-- An event of the history `H` (R33). -/
inductive Event where
  | send (frame : Bytes) (answer : SendResult)
  | recv (answer : RecvAnswer)
  deriving DecidableEq, Repr

/-- A response on the host port: `STATUS` and the reply bytes (R170, R176). -/
structure Response where
  status : Status
  bytes : Bytes
  deriving DecidableEq, Repr

/-- What a unit presents on its result ports (R102, R103, R121, R123). A result that "carries no value" carries none here. -/
inductive UnitResult where
  | byte (b : Byte)
  | pair (lo hi : Byte)
  | value (v : Arg)
  | failed (e : ErrCode)
  deriving DecidableEq, Repr

/-- What the host does between steps of the block (R10, D2; log entry 1). -/
inductive HostAction where
  /-- nothing: the block takes this step -/
  | pass
  /-- presents a request on the request port (R171) -/
  | present (r : Request)
  /-- uses a stand-alone unit (R87) -/
  | useUnit (u : UnitRequest)
  /-- writes `TMO` (R28) -/
  | writeTmo (v : BitVec Config.TMO_W)
  /-- calls the channel's `connect`, which succeeds or fails (R31, R242) -/
  | connect (succeeds : Bool)
  /-- calls the channel's `close` (R31) -/
  | close
  /-- asserts `rst` for one step (R240, R241) -/
  | rst
  deriving DecidableEq, Repr

/-- A buffer's bytes: (index, byte) pairs, the indices strictly rising. An index that is not listed holds no value (R36: "holding no
value"; log entry 11). -/
abbrev Memory := List Host.Cell

/-- The state. First the tuple of R20, then the channel as far as the block sees or changes it, then the observation (D25), then the
inputs and the model's own fields. -/
structure State where
  /-- `OP` (R21) -/
  op : Byte
  /-- `A0` (R21) -/
  a0 : Arg
  /-- `A1` (R21) -/
  a1 : Arg
  /-- `A2` (R21) -/
  a2 : Arg
  /-- `FL` (R21) -/
  fl : JogFlags
  /-- `PHASE` (R23) -/
  phase : Phase
  /-- `TXBUF` (R24) -/
  txbuf : Memory
  /-- `TXLEN` (R24) -/
  txlen : Nat
  /-- `ACC` (R25) -/
  acc : Byte
  /-- `ACC` has been cleared since reset; MODEL's own field, an observation that no meaning reads: it marks the
  uses of the unit that R103 calls a fault of the model (`unclearedUse` of Safety.lean; log entry 9) -/
  accCleared : Bool
  /-- `RXBUF` (R26) -/
  rxbuf : Memory
  /-- `RXLEN` (R26) -/
  rxlen : Nat
  /-- `STATUS` (R27) -/
  status : Status
  /-- `TMO` (R28) -/
  tmo : BitVec Config.TMO_W
  /-- the level `CH.ready` (R31) -/
  chReady : Bool
  /-- the bytes that reached the PTR: the wire, Remote to PTR (R50, R57); hidden from the block (log entry 20) -/
  wire : Bytes
  /-- the event history `H`, oldest first (R33) -/
  history : List Event
  /-- the responses presented, oldest first (D25) -/
  responses : List Response
  /-- the unit results presented, oldest first; MODEL's own field (log entry 14) -/
  unitResults : List UnitResult
  /-- the request port: the request presented and not yet accepted (R171) -/
  port : Option Request
  /-- what the host will do; an input, MODEL's own field (log entry 1) -/
  host : List HostAction
  /-- the channel's answers to the next `ChSend`s; an input, MODEL's own field (log entry 2) -/
  sendAnswers : List SendAnswer
  /-- the channel's answers to the next `ChRecv`s; an input, MODEL's own field (log entry 3) -/
  recvAnswers : List RecvAnswer
  /-- how many free receive answers have been drawn; MODEL's own field (log entry 3) -/
  draws : Nat
  deriving DecidableEq, Repr

/-- Why a step of the machine stops. Each is safe: the model stops where the spec gives no value or no step. -/
inductive Fault where
  /-- Raised by the send step when the channel never answers the `ChSend`: the block is stuck in `SEND`, not finished (R189, U17).
  Safe. -/
  | sendUnanswered
  /-- Raised by the send step when `TXBUF[0..TXLEN-1]` holds a byte without a value or reaches past index 9 (R24, R36, U19); no run
  from reset reaches it. Safe. -/
  | txbufNoValue
  deriving DecidableEq, Repr

/-- Why an instruction has no meaning. -/
inductive Refusal where
  /-- Raised by `exec` for an instruction of the table that has no meaning yet; no arm raises it now. Safe. -/
  | notModelled (mnemonic : String)
  deriving DecidableEq, Repr

/-- The state after reset (R36, R240). The spec fixes `PHASE`, `TXLEN`, `RXLEN`, `STATUS`, `H` and, for a host, `CH.ready`; no byte of
the buffers holds a value; the registers it calls unspecified are 0 (DESIGN CHOICE, log entry 8). -/
def State.reset : State where
  op := 0
  a0 := 0
  a1 := 0
  a2 := 0
  fl := ⟨false, false, false⟩
  phase := .idle
  txbuf := []
  txlen := 0
  acc := 0
  accCleared := false
  rxbuf := []
  rxlen := 0
  status := ⟨.ok, false⟩
  tmo := 0
  chReady := false
  wire := []
  history := []
  responses := []
  unitResults := []
  port := none
  host := []
  sendAnswers := []
  recvAnswers := []
  draws := 0

end Sys2Proof.Machine
end

