-- ==== Sys2Proof/Machine/Ops.lean ====
section
/-! DEFINITION. The shared operations of the controller (spec/43_transaction.md, spec/60_exceptions.md, spec/70_reset_and_hazards.md):
accepting a request, ending a transaction, the three steps of a transaction, and reset. -/

namespace Sys2Proof.Machine

/-- What a step answers. -/
abbrev Result := Host.Outcome State Fault Refusal

/-- `PHASE` as its two bits (R23). -/
def phaseBits : Phase → BitVec 2
  | .idle => 0
  | .send => 1
  | .wait => 2

/-- `STATUS` as the host reads it: `ERR` in bits [3:0], `SENT` in bit 4 (R27). -/
def statusBits (s : Status) : BitVec 5 := BitVec.ofBool s.sent ++ errNumber s.err

/-- The operand registers as a request (R21). -/
def State.operands (s : State) : Request := ⟨s.op, s.a0, s.a1, s.a2, s.fl⟩

/-! ### The request port -/

/-- The port's ready signal: a request is accepted only when `PHASE = IDLE` (R171). -/
def State.ready (s : State) : Bool := decide (s.phase = .idle)

/-- Acceptance: the five operand registers take the presented values, and the port is free again (R171). -/
def State.accept (s : State) (r : Request) : State :=
  { s with op := r.op, a0 := r.a0, a1 := r.a1, a2 := r.a2, fl := r.fl, port := none }

/-! ### The end of a transaction: errors (R212) and the response (R176) -/

/-- `respond` (R170): `STATUS` is overwritten as a whole and the response presented. -/
def State.respond (s : State) (st : Status) (bytes : Bytes) : State :=
  { s with status := st, responses := s.responses ++ [⟨st, bytes⟩] }

/-- ERROR ENTRY (R212), the one shared operation by which a transaction ends with an error: `STATUS`, `TXLEN`, `RXLEN`, `PHASE` and
the response without bytes; nothing else. There is no saved state and no return instruction: the block is in `IDLE` and accepts
the next request (R213). -/
def State.takeError (s : State) (e : ErrCode) (sent : Bool) : State :=
  { s with txlen := 0, rxlen := 0, phase := .idle }.respond ⟨e, sent⟩ []

/-- The frame is discarded at the end of its transaction: no byte of `TXBUF` holds a value any more (R24, R187; log entry 11). -/
def State.discardFrame (s : State) : State := { s with txbuf := [], txlen := 0 }

/-- `abort` (R170): a transaction that has a frame ends with an error. -/
def State.abort (s : State) (e : ErrCode) (sent : Bool) : State := s.discardFrame.takeError e sent

/-! ### The steps of a transaction -/

/-- The frame enters `TXBUF` in one step (R172). Its checksum is the last LRC computation, so `ACC` holds it (R25, R106; the
model's reading, beside R100 and R140, whose functions write no state: log entry 10). -/
def State.loadFrame (s : State) (frame : Bytes) (cks : Byte) : State :=
  { s with
    txbuf := Memory.writeBytes s.txbuf 0 frame
    txlen := frame.length
    phase := .send
    acc := cks
    accCleared := true }

/-- Steps (1) and (2) (R172): an error of the framer ends the transaction at once, before any byte of `TXBUF` is written (R149). -/
def beginTransaction (op : Byte) (payload : Except ErrCode Bytes) (s : State) : Result :=
  match payload with
  | .error e => .next (s.takeError e false)
  | .ok p => .next (s.loadFrame (assemble op p) (lrc (op :: p)))

/-- `TXBUF[0..TXLEN-1]`, `none` when an index does not exist or holds no value (R24, R36). -/
def State.txFrame (s : State) : Option Bytes :=
  if s.txlen ≤ Config.TX_MAX then Memory.readBytes s.txbuf 0 s.txlen else none

/-- An event is appended to the history `H` (R33). -/
def State.record (s : State) (e : Event) : State := { s with history := s.history ++ [e] }

/-- One `ChSend` of a frame: the channel's answer is taken, the bytes that reached the PTR are on the wire (R57), and the event is
appended to `H` (R174). -/
def State.chSend (s : State) (frame reached : Bytes) (answer : SendResult) : State :=
  { s with sendAnswers := s.sendAnswers.tail, wire := s.wire ++ reached }.record (.send frame answer)

/-- The send was answered ok: the reply is awaited (R174). -/
def State.awaitReply (s : State) : State := { s with phase := .wait }

/-- Steps (3) and (4) (R173, R174): the connection is checked, then the whole frame is handed to the channel as one write. A send the
channel never answers has no step (R189). A failed send may have delivered any prefix (R57). -/
def sendStep (s : State) : Result :=
  if s.chReady then
    match s.txFrame, s.sendAnswers with
    | none, _ => .fault .txbufNoValue
    | some _, [] => .fault .sendUnanswered
    | some frame, .ok :: _ => .next (s.chSend frame frame .ok).awaitReply
    | some frame, .failed delivered :: _ =>
      .next ((s.chSend frame (frame.take delivered) .sendFailed).abort .sendFailed true)
  else .next (s.abort .connectFailed false)

/-- The answer as the block gets it: a read returns at most `RX_MAX` bytes, the rest stays in the channel (R32, R58; log entry 4). -/
def cutReply (max : Nat) : RecvAnswer → RecvAnswer
  | .ok bytes => .ok (bytes.take max)
  | .receiveFailed => .receiveFailed
  | .timeout => .timeout

/-- The answer the channel gives to a `ChRecv(RX_MAX)` issued now: the next one listed, or a free draw (R177: every `ChRecv` is
answered). -/
def State.recvAnswer (s : State) : RecvAnswer :=
  cutReply Config.RX_MAX (s.recvAnswers.headD (Config.recvAnswer s.draws s.tmo))

/-- The channel has answered a `ChRecv`: a listed answer is used up, or one more free draw is made. -/
def State.recvTaken (s : State) : State :=
  { s with recvAnswers := s.recvAnswers.tail, draws := if s.recvAnswers.isEmpty then s.draws + 1 else s.draws }

/-- The reply enters `RXBUF` from index 0 (R175). -/
def State.storeReply (s : State) (bytes : Bytes) : State :=
  { s with rxbuf := Memory.writeBytes s.rxbuf 0 bytes, rxlen := bytes.length }

/-- Step (6) (R176): in one step the frame is discarded, `PHASE` becomes `IDLE`, and the raw reply is presented. -/
def State.complete (s : State) (bytes : Bytes) : State :=
  { (s.storeReply bytes).discardFrame with phase := .idle }.respond ⟨.ok, true⟩ bytes

/-- What the controller does with the receive's answer (R175, R176, R177). -/
def State.takeReply (s : State) (emptyIsError : Bool) (answer : RecvAnswer) : State :=
  match answer with
  | .ok bytes => if emptyIsError && bytes.isEmpty then s.abort .receiveFailed true else s.complete bytes
  | .receiveFailed => s.abort .receiveFailed true
  | .timeout => s.abort .timeout true

/-- Steps (5) and (6) (R175 to R177): one receive, its event appended to `H`, and the end of the transaction. -/
def recvStep (s : State) : Result :=
  .next ((s.recvTaken.record (.recv s.recvAnswer)).takeReply Config.EMPTY_REPLY_IS_ERROR s.recvAnswer)

/-- `transact` (R170), cut at its two waits on the channel (R256): what the transaction does next. `op` and `payload` are read in `IDLE`
only. -/
def transact (op : Byte) (payload : Except ErrCode Bytes) (s : State) : Result :=
  match s.phase with
  | .idle => beginTransaction op payload s
  | .send => sendStep s
  | .wait => recvStep s

/-! ### Reset -/

/-- One step with `rst` asserted (R240, R241): the block's state and `H` take their reset values; a transaction in progress is abandoned
without a response; the channel is not closed, and the answer to an outstanding `ChRecv` is lost. DESIGN CHOICE (log
entry 15): what else stays, and that with no answer listed the abandoned receive draws no free answer, so `draws` is kept. -/
def State.assertReset (s : State) : State :=
  { State.reset with
    chReady := s.chReady
    wire := s.wire
    responses := s.responses
    unitResults := s.unitResults
    port := s.port
    host := s.host
    sendAnswers := s.sendAnswers
    recvAnswers := if s.phase = .wait then s.recvAnswers.tail else s.recvAnswers
    draws := s.draws }

end Sys2Proof.Machine
end

