-- ==== Sys2Proof/Machine/Transaction.lean ====
section
/-! DEFINITION. The meanings of the device commands (R180 to R185): each is the transaction of R170 with the command's frame
(R141 to R146). In `IDLE` a command validates its arguments and builds its frame; in `SEND` and `WAIT` its transaction goes on. -/

namespace Sys2Proof.Machine

/-- `getStatusJog` with `speed` = 0 (R141, R180). -/
def execGetStatusJogSpeed0 (fl : JogFlags) (s : State) : Result :=
  transact Config.CMD_JOG (jogChecked Config.JOG_VALIDATES_ARGS s.a0 s.a1 s.a2 (jogPayload0 jogMasks fl)) s

/-- `getStatusJog` with `speed` not 0 (R141, R180; log entry 25). -/
def execGetStatusJogSpeedN (fl : JogFlags) (s : State) : Result :=
  transact Config.CMD_JOG (jogChecked Config.JOG_VALIDATES_ARGS s.a0 s.a1 s.a2 (jogPayloadN jogMasks fl)) s

/-- `moveToEnteredCoordinate` (R143, R182). -/
def execMoveToCoordinate (pan tilt : Arg) (s : State) : Result :=
  transact Config.CMD_COORDINATE (coordinatePayload pan tilt) s

/-- `moveToAbsoluteZero` (R144, R183). -/
def execMoveToAbsoluteZero (s : State) : Result :=
  transact Config.CMD_ABSOLUTE_ZERO (.ok []) s

/-- `moveToHome` (R142, R181). -/
def execMoveToHome (s : State) : Result :=
  transact Config.CMD_HOME (.ok []) s

/-- `retrievePresetTableEntry` (R145, R184). -/
def execRetrievePreset (index : Arg) (s : State) : Result :=
  transact Config.CMD_RETRIEVE (presetPayload index) s

/-- `saveCurrentPositionAsPreset` (R146, R185). -/
def execSavePreset (index : Arg) (s : State) : Result :=
  transact Config.CMD_SAVE (presetPayload index) s

end Sys2Proof.Machine
end

