-- ==== Sys2Proof/Machine/Units.lean ====
section
/-! DEFINITION. The meanings of the three unit operations (R87): the LRC generator (R100 to R103), the SignedShort encoder (R121) and
decoder (R123). They can be used at any time, write no `STATUS` and start no transaction. -/

namespace Sys2Proof.Machine

/-- A result on a unit's own port (R203: "not in `STATUS`"; log entry 14). -/
def State.present (s : State) (r : UnitResult) : State := { s with unitResults := s.unitResults ++ [r] }

/-- `ACC` is set by a clear (R103). -/
def State.loadAcc (s : State) (c : Byte) : State := { s with acc := c, accCleared := true }

/-- `LRC_ACC` on `ACC` (R103). -/
def State.foldAcc (s : State) (b : Byte) : State := { s with acc := lrcAcc s.acc b }

/-- `computeLRC` of a whole sequence (R100, R102): the checksum, or the error of the absent sequence, is presented, and no state is written
("State written: none (pure function)", R100); `ACC` belongs to the streaming form (R103; log entry 29). -/
def lrcSpan (bytes : Option Bytes) (s : State) : Result :=
  match computeLRC bytes with
  | .ok c => .next (s.present (.byte c))
  | .error e => .next (s.present (.failed e))

/-- One step of the ports `lrc_clear`, `lrc_en`, `lrc_in` (R103): the clear wins; an accumulate XORs its byte into `ACC`, whatever `ACC`
holds (nothing cleared since reset: log entry 9); with neither asserted nothing happens (log entry 13). -/
def lrcDrive (clear en : Bool) (b : Byte) (s : State) : Result :=
  if clear then .next (s.loadAcc 0#8)
  else if en then .next (s.foldAcc b)
  else .next s

/-- `LRC_READ` (R103), whatever `ACC` holds (log entry 9), and the result port with `span_present` = 0 (R102). -/
def lrcRead (present : Bool) (s : State) : Result :=
  if present then .next (s.present (.byte s.acc)) else .next (s.present (.failed .invalidInput))

/-- `computeLRC`, in each form of its ports (R100 to R103). -/
def execComputeLRC (input : LrcInput) (s : State) : Result :=
  match input with
  | .span bytes => lrcSpan bytes s
  | .drive clear en b => lrcDrive clear en b s
  | .read present => lrcRead present s

/-- `encodeSignedShort` on the port `enc_v` (R121): `enc_lo` and `enc_hi`, or `enc_oor`. -/
def execEncodeSignedShort (v : Arg) (s : State) : Result :=
  match encodeSignedShort v.toInt with
  | .ok (lo, hi) => .next (s.present (.pair lo hi))
  | .error e => .next (s.present (.failed e))

/-- `decodeSignedShort` on the ports `dec_lo`, `dec_hi` (R123). -/
def execDecodeSignedShort (lo hi : Byte) (s : State) : Result :=
  .next (s.present (.value (decPort lo hi)))

end Sys2Proof.Machine
end

