-- ==== Sys2Proof/Machine/Dispatch.lean ====
section
/-! DEFINITION. The meaning of every instruction: one arm per constructor of Instr. -/

namespace Sys2Proof.Machine

def exec (i : Instr) (s : State) : Host.Outcome State Fault Refusal :=
  match i with
  | .getStatusJogSpeed0 fl => Sys2Proof.Machine.execGetStatusJogSpeed0 fl s
  | .getStatusJogSpeedN fl => Sys2Proof.Machine.execGetStatusJogSpeedN fl s
  | .moveToCoordinate pan tilt => Sys2Proof.Machine.execMoveToCoordinate pan tilt s
  | .moveToAbsoluteZero => Sys2Proof.Machine.execMoveToAbsoluteZero s
  | .moveToHome => Sys2Proof.Machine.execMoveToHome s
  | .retrievePreset index => Sys2Proof.Machine.execRetrievePreset index s
  | .savePreset index => Sys2Proof.Machine.execSavePreset index s
  | .computeLRC input => Sys2Proof.Machine.execComputeLRC input s
  | .encodeSignedShort v => Sys2Proof.Machine.execEncodeSignedShort v s
  | .decodeSignedShort lo hi => Sys2Proof.Machine.execDecodeSignedShort lo hi s

end Sys2Proof.Machine
end

