-- ==== Sys2Proof/Machine/Fetch.lean ====
section
/-! DEFINITION. What happens next: the host's next act, or the block's next step. The block fetches no instruction from a memory (R23):
its next instruction is the request the host has presented (R171), or a use of a unit port (R87). -/

namespace Sys2Proof.Machine

/-- What a step comes to: the meaning of an instruction, run from a state, or an outcome that needs none. -/
inductive Move where
  | run (i : Instr) (s : State)
  | answer (r : Result)

/-- The block's step. In `IDLE` it accepts the request on the port and serves it, an unlisted `OP` with `IllegalCommand` (R150, R172,
R208), or waits for the host (R189); in `SEND` and `WAIT` the transaction in progress goes on, and a presented request waits
(R171). -/
def blockMove (s : State) : Move :=
  match s.phase with
  | .idle =>
    match s.port with
    | none => .answer (.next s)
    | some r =>
      match decodeRequest r with
      | some i => .run i (s.accept r)
      | none => .answer (.next ((s.accept r).takeError .illegalCommand false))
  | .send => .answer (sendStep s)
  | .wait => .answer (recvStep s)

/-- The host's act, in a state whose list of acts is already shortened (D2, R28, R31, R240; log entries 1 and 16). -/
def hostMove (a : HostAction) (s : State) : Move :=
  match a with
  | .pass => blockMove s
  | .present r => .answer (.next { s with port := some r })
  | .useUnit u => .run (decodeUnit u) s
  | .writeTmo v => .answer (.next { s with tmo := v })
  | .connect succeeds => .answer (.next { s with chReady := s.chReady || succeeds })
  | .close => .answer (.next { s with chReady := false })
  | .rst => .answer (.next s.assertReset)

/-- The act waits: a request is to be presented while an earlier one is still on the port (R171). -/
def hostWaits (a : HostAction) (s : State) : Bool :=
  match a with
  | .present _ => s.port.isSome
  | .pass => false
  | .useUnit _ => false
  | .writeTmo _ => false
  | .connect _ => false
  | .close => false
  | .rst => false

/-- Who moves: the host, while its list names an act that need not wait; else the block (log entry 1). -/
def nextMove (s : State) : Move :=
  match s.host with
  | [] => blockMove s
  | a :: later => if hostWaits a s then blockMove s else hostMove a { s with host := later }

/-- The state in which the block's very next step serves a request: idle, the request on the port, and no act of the host before it. -/
def State.withRequest (s : State) (r : Option Request) : State := { s with phase := .idle, port := r, host := [] }

/-- The request a wire word stands for: of the command its frame decodes to (log entry 19). -/
def requestOfWord (nbits w : Nat) : Option Request := (decodeTableWord nbits w).bind encodeRequest

end Sys2Proof.Machine
end

