-- ==== Sys2Proof/Machine/Step.lean ====
section
/-! DEFINITION. One step of the machine. -/

namespace Sys2Proof.Machine

/-- One step: the host's act, the meaning of the instruction taken, or the transaction's next step. -/
def step (s : State) : Host.Outcome State Fault Refusal :=
  match nextMove s with
  | .run i s' => exec i s'
  | .answer r => r

/-- The machine with the command of a wire word on its request port, so that the very next step accepts and runs it (log entry 19).
A word that is no frame of the block puts nothing on the port. -/
def State.withFetchWord (s : State) (nbits w : Nat) : State := s.withRequest (requestOfWord nbits w)

end Sys2Proof.Machine
end

