-- ==== Sys2Proof/Safety.lean ====
section
/-! DEFINITION. What counts as a good state and a good run, in the terms the statements use: the frame invariants of R82, the state
invariant of R37, the shape of the history (R60, R61) and of the responses (R186, R200). -/

namespace Sys2Proof

open Machine

/-- The offset of the command byte: 2 in format P, 1 in format N (R75, R84). -/
def cmdOffset (f : Bytes) : Nat := if f[1]? = some Config.PAD then 2 else 1

/-- The bytes of `f` from offset `c` to offset `last` inclusive (R7). -/
def slice (f : Bytes) (c last : Nat) : Bytes := (f.drop c).take (last + 1 - c)

/-- The checksum span: from the command byte to the byte before the checksum (R75). -/
def spanOf (f : Bytes) : Bytes := slice f (cmdOffset f) (f.length - 3)

/-- The bytes are a frame the framer builds for some request (R140). -/
def IsFrame (f : Bytes) : Prop := ∃ r, buildFrame r = .ok f

/-- Every listed index of a buffer exists (R24, R26). -/
def bufferWithin (m : Memory) (size : Nat) : Prop := ∀ c ∈ m, c.1 < size

/-- The state invariant: R37, with the canonical form and the bounds of the two buffers. -/
structure StateInv (s : State) : Prop where
  txWf : Memory.wf s.txbuf
  rxWf : Memory.wf s.rxbuf
  txWithin : bufferWithin s.txbuf Config.TX_MAX
  rxWithin : bufferWithin s.rxbuf Config.RX_MAX
  /-- R37 (c), R24: in `IDLE` there is no frame -/
  idleEmpty : s.phase = .idle → s.txlen = 0 ∧ s.txbuf = []
  /-- R37 (b): in `SEND` and `WAIT`, `TXBUF` holds the frame of the operand registers -/
  busyFrame : s.phase ≠ .idle → ∃ f, buildFrame s.operands = .ok f ∧ s.txFrame = some f ∧ s.txlen = f.length
  /-- R37 (d) -/
  rxLen : s.rxlen ≤ Config.RX_MAX
  /-- R26: the valid part of `RXBUF` holds values -/
  rxValid : ∃ bs, Memory.readBytes s.rxbuf 0 s.rxlen = some bs

/-- Reading a history from its oldest event: `some none` when every group of R61 is complete, `some (some f)` when the last event is a
send of `f` answered ok whose receive has not happened, `none` when the order of R60 or R61 is broken. -/
def historyScan : Option Bytes → List Event → Option (Option Bytes)
  | o, [] => some o
  | none, .send f .ok :: h => historyScan (some f) h
  | none, .send _ .sendFailed :: h => historyScan none h
  | none, .recv _ :: _ => none
  | some _, .recv _ :: h => historyScan none h
  | some _, .send _ _ :: _ => none

/-- The history is a sequence of the groups of R61, the last one open exactly in `WAIT`, where it is the send of the frame in `TXBUF`;
and every frame sent is one the framer built (R188). -/
structure HistoryInv (s : State) : Prop where
  closed : s.phase ≠ .wait → historyScan none s.history = some none
  opened : s.phase = .wait → ∃ f, s.txFrame = some f ∧ historyScan none s.history = some (some f)
  frames : ∀ f a, Event.send f a ∈ s.history → IsFrame f

/-- What every response satisfies: it is one of the eight endings of R186, `SENT` is as in the table of R200, only a success carries
bytes, and no more than `RX_MAX` of them (R26). -/
def ResponseOk (r : Response) : Prop :=
  r.status.err ≠ .invalidInput ∧ r.status.sent = sentColumn r.status.err ∧ (r.status.err ≠ .ok → r.bytes = []) ∧
    r.bytes.length ≤ Config.RX_MAX

/-- Every response so far is a good one. -/
def ResponsesInv (s : State) : Prop := ∀ r ∈ s.responses, ResponseOk r

/-- The use reads an `ACC` that nothing has cleared since reset: what R103 (of `LRC_ACC`) and U19 (of every read) call a fault of a model.
The machine runs it on the value `ACC` holds; a claim about a run can rule it out with this test (log entry 9). -/
def unclearedUse (s : State) : LrcInput → Bool
  | .span _ => false
  | .drive clear en _ => !clear && en && !s.accCleared
  | .read present => present && !s.accCleared

/-- Uses of the LRC unit one after the other, stopping where one stops. -/
def lrcRun : List LrcInput → State → Result
  | [], s => .next s
  | x :: xs, s =>
    match exec (.computeLRC x) s with
    | .next t => lrcRun xs t
    | .fault r => .fault r
    | .refused r => .refused r

end Sys2Proof
end

