-- ==== Sys2Proof/Certificates/Slice0/Obligations.lean ====
section
/-! DEFINITION. The statements about the model, family by family: the LRC generator, the SignedShort codec, the framer and its
encodings, the transaction controller, the errors, reset, and the invariants that every step keeps. -/

open Sys2Proof Sys2Proof.Machine

/-! ### The LRC generator (spec/40_lrc.md) -/

/-- R101: the empty sequence has checksum 0x00, which is not the failure of the absent one; the unit presents it; no frame's span is
empty, since it begins with the command byte. The model's readings: the unit leaves `ACC` as it was, where R100 is taken over R25 (log
entry 29), and results form a list (log entry 14). -/
def Obligations.EmptySpanHasChecksumZero : Prop :=
  computeLRC (some []) = .ok 0#8 ∧ computeLRC (some []) ≠ computeLRC none ∧
    (∀ r f, buildFrame r = .ok f → (spanOf f).head? = some r.op) ∧
    ∀ s : State, exec (.computeLRC (.span (some []))) s = .next { s with unitResults := s.unitResults ++ [.byte 0#8] }

/-- R102: the absent sequence fails with `InvalidInput` and no byte is presented, in both forms of the unit; no frame can fail so. -/
def Obligations.AbsentSpanIsInvalidInput : Prop :=
  computeLRC none = .error .invalidInput ∧ computeLRC none ≠ computeLRC (some []) ∧
    (∀ s : State, exec (.computeLRC (.span none)) s = .next (s.present (.failed .invalidInput)) ∧
      exec (.computeLRC (.read false)) s = .next (s.present (.failed .invalidInput))) ∧
    ∀ r, buildFrame r ≠ .error .invalidInput

/-- R104, laws (a) to (g). -/
def Obligations.LrcIsTheXorFold : Prop :=
  ∀ s t u : Bytes, ∀ b : Byte,
    computeLRC (some s) = .ok (lrc s) ∧
    lrc (s ++ t) = lrc s ^^^ lrc t ∧
    lrc [b] = b ∧
    lrc (s ++ [lrc s]) = 0#8 ∧
    lrc (s ++ [0#8]) = lrc s ∧ lrc (s ++ 0#8 :: t) = lrc (s ++ t) ∧
    (s.Perm u → lrc s = lrc u) ∧
    lrc s ^^^ lrc s = 0#8 ∧
    ∀ k, k < 8 → (lrc s).getLsbD k = decide (s.countP (fun x => x.getLsbD k) % 2 = 1)

/-- R103: a clear, an accumulate of each byte and a read give `computeLRC` of the bytes, from every state; a clear wins over an
accumulate; an accumulate folds one byte into `ACC`, whatever `ACC` holds. An accumulate with no clear since reset, which R103 calls a
fault of the model, runs here and is marked (log entry 9): it is an uncleared use exactly when nothing has cleared `ACC`, as after reset,
and no use that follows a clear is one. -/
def Obligations.StreamingLrcMatchesWhole : Prop :=
  (∀ (s : State) (bs : Bytes) (en : Bool) (x : Byte),
    lrcRun (.drive true en x :: (bs.map (fun b => LrcInput.drive false true b) ++ [.read true])) s =
      .next ((s.loadAcc (lrc bs)).present (.byte (lrc bs)))) ∧
  (∀ (s : State) (b : Byte), exec (.computeLRC (.drive true true b)) s = .next (s.loadAcc 0#8)) ∧
  (∀ (s : State) (b : Byte), exec (.computeLRC (.drive false true b)) s = .next { s with acc := s.acc ^^^ b }) ∧
  (∀ (s : State) (b : Byte), unclearedUse s (.drive false true b) = true ↔ s.accCleared = false) ∧
  State.reset.accCleared = false ∧
  ∀ (s t : State) (en : Bool) (b : Byte) (x : LrcInput), exec (.computeLRC (.drive true en b)) s = .next t → unclearedUse t x = false

/-- R25, R100, R103: where each use of the LRC unit completes: the result presented, and `ACC` at the end. `LRC_READ` presents what `ACC`
holds, cleared or not. The model's own readings: a read with no clear since reset runs and is marked (log entry 9); an idle port changes
nothing (log entry 13); results form a list (log entry 14). A whole sequence writes no state, as R100 says, so `ACC` keeps what it held,
beside R25 (log entry 29). -/
def Obligations.LrcUnitCompletes : Prop :=
  ∀ (s : State) (bs : Bytes) (en : Bool) (b : Byte),
    exec (.computeLRC (.span (some bs))) s =
      .next { s with unitResults := s.unitResults ++ [.byte (bs.foldl (fun x y => x ^^^ y) 0#8)] } ∧
    exec (.computeLRC (.drive true en b)) s = .next { s with acc := 0#8, accCleared := true } ∧
    exec (.computeLRC (.drive false true b)) s = .next { s with acc := s.acc ^^^ b } ∧
    exec (.computeLRC (.drive false false b)) s = .next s ∧
    exec (.computeLRC (.read true)) s = .next { s with unitResults := s.unitResults ++ [.byte s.acc] } ∧
    exec (.computeLRC (.read false)) s = .next { s with unitResults := s.unitResults ++ [.failed .invalidInput] } ∧
    (unclearedUse s (.read true) = true ↔ s.accCleared = false)

/-! ### The SignedShort codec (spec/41_signed_short.md) -/

/-- R122: `OutOfRange` exactly outside [-32768, 32767], and no other error; on the 32-bit port, success exactly when bits 31 to 15 are
all equal. -/
def Obligations.EncodeFailsExactlyOutOfRange : Prop :=
  (∀ v : Int, encodeSignedShort v = .error .outOfRange ↔ v > 32767 ∨ v < -32768) ∧
  (∀ v e, encodeSignedShort v = .error e → e = .outOfRange) ∧
  ∀ v : Arg, (∃ p, encodeSignedShort v.toInt = .ok p) ↔ ∀ k, 15 ≤ k → k < 32 → v.getLsbD k = v.getLsbD 31

/-- R124 and R125: encode and decode are inverse to each other, on every value in range and on every pair of bytes. -/
def Obligations.SignedShortRoundTrips : Prop :=
  (∀ v : Int, -32768 ≤ v → v ≤ 32767 → ∃ lo hi, encodeSignedShort v = .ok (lo, hi) ∧ decodeSignedShort lo hi = v) ∧
  ∀ lo hi : Byte, -32768 ≤ decodeSignedShort lo hi ∧ decodeSignedShort lo hi ≤ 32767 ∧
    encodeSignedShort (decodeSignedShort lo hi) = .ok (lo, hi)

/-- R121: `encodeSignedShort` on every integer: the two bytes of `v mod 65536`, low byte first, or the error; and what the encoder port
presents for every argument. Nothing else changes. -/
def Obligations.EncoderPresentsTwosComplement : Prop :=
  (∀ v : Int, (-32768 ≤ v → v ≤ 32767 → ∃ lo hi : Byte,
      (lo.toNat : Int) + 256 * hi.toNat = v % 65536 ∧ encodeSignedShort v = .ok (lo, hi)) ∧
    (v > 32767 ∨ v < -32768 → encodeSignedShort v = .error .outOfRange)) ∧
  ∀ (s : State) (v : Arg),
    (-32768 ≤ v.toInt → v.toInt ≤ 32767 → ∃ lo hi : Byte,
      (lo.toNat : Int) + 256 * hi.toNat = v.toInt % 65536 ∧
      exec (.encodeSignedShort v) s = .next { s with unitResults := s.unitResults ++ [.pair lo hi] }) ∧
    (v.toInt > 32767 ∨ v.toInt < -32768 →
      exec (.encodeSignedShort v) s = .next { s with unitResults := s.unitResults ++ [.failed .outOfRange] })

/-- R123: what the decoder port presents for every pair of bytes: the value, which is the sign extension of the 16-bit pattern; nothing
else changes. -/
def Obligations.DecoderPresentsSignedValue : Prop :=
  ∀ (s : State) (lo hi : Byte), ∃ w : Arg,
    exec (.decodeSignedShort lo hi) s = .next { s with unitResults := s.unitResults ++ [.value w] } ∧
    w.toInt = (if hi.toNat * 256 + lo.toNat ≥ 32768 then ((hi.toNat * 256 + lo.toNat : Nat) : Int) - 65536
      else ((hi.toNat * 256 + lo.toNat : Nat) : Int)) ∧
    w = (hi ++ lo).signExtend 32

/-- R87: a unit operation, at any time, touches `ACC` and its own results only: no transaction, no `STATUS`, no buffer, no channel. -/
def Obligations.UnitsLeaveTransactionsAlone : Prop :=
  ∀ (u : UnitRequest) (s t : State), exec (decodeUnit u) s = .next t →
    t = { s with acc := t.acc, accCleared := t.accCleared, unitResults := t.unitResults } ∧
    s.unitResults <+: t.unitResults ∧ t.unitResults.length ≤ s.unitResults.length + 1

/-! ### The framer and the encodings (spec/30_encoding.md, spec/42_framer.md) -/

/-- R77: three masks of one bit each, pairwise different; `flagsByte` is the OR of those set, 0x00 with none, no other bit; so the byte
tells the flags apart. -/
def Obligations.FlagsByteTellsFlagsApart : Prop :=
  jogMasks.admissible = true ∧
  (∀ fl, flagsByte jogMasks fl =
    (if fl.osl then jogMasks.osl else 0#8) ||| (if fl.stop then jogMasks.stop else 0#8)
      ||| (if fl.reset then jogMasks.reset else 0#8)) ∧
  flagsByte jogMasks ⟨false, false, false⟩ = 0#8 ∧
  (∀ fl, flagsByte jogMasks fl &&& ~~~(jogMasks.osl ||| jogMasks.stop ||| jogMasks.reset) = 0#8) ∧
  ∀ fl fl', flagsByte jogMasks fl = flagsByte jogMasks fl' → fl = fl'

/-- R140 to R146 against R74: the frame the general procedure builds for a request is, byte by byte, the layout of the command the
request selects. -/
def Obligations.BuiltFrameIsTheLayout : Prop :=
  ∀ r i, decodeRequest r = some i → i.wellFormed = true → ∃ f, encode i = some f ∧ buildFrame r = .ok f

/-- R147 and R150: exactly which requests have no frame, and with which error. -/
def Obligations.FramerFailsExactlyAsListed : Prop :=
  ∀ (r : Request) (e : ErrCode), buildFrame r = .error e ↔
    (e = .illegalCommand ∧ r.op ≠ 0x31#8 ∧ r.op ≠ 0x33#8 ∧ r.op ≠ 0x35#8 ∧ r.op ≠ 0x36#8 ∧ r.op ≠ 0x40#8 ∧ r.op ≠ 0x42#8) ∨
    (e = .outOfRange ∧ r.op = 0x33#8 ∧
      (r.a0.toInt > 32767 ∨ r.a0.toInt < -32768 ∨ r.a1.toInt > 32767 ∨ r.a1.toInt < -32768)) ∨
    (e = .presetOutOfRange ∧ (r.op = 0x40#8 ∨ r.op = 0x42#8) ∧ (r.a0.toInt < 0 ∨ r.a0.toInt > 31))

/-- R73: the length of every frame the framer builds. -/
def Obligations.FrameLengthsByCommand : Prop :=
  ∀ r f, buildFrame r = .ok f →
    f.length = (if r.op = 0x35#8 then 4 else if r.op = 0x36#8 then 5 else if r.op = 0x42#8 then 5
      else if r.op = 0x40#8 then 6 else if r.op = 0x33#8 then 8 else if r.a2 = 0 then 10 else 8) ∧
    f.length ∈ [4, 5, 6, 8, 10] ∧ f.length ≤ Config.TX_MAX ∧ Config.TX_MAX = 10

/-- R82 and R83: the invariants of every frame the framer builds, and their consequences for a receiver. The span begins with the command
byte (R75). -/
def Obligations.EveryFrameIsDelimitedAndSummed : Prop :=
  ∀ r f, buildFrame r = .ok f →
    f[0]? = some 0x02#8 ∧ f[f.length - 1]? = some 0x03#8 ∧ f[f.length - 2]? = some (lrc (spanOf f)) ∧
    f = f.take (cmdOffset f) ++ spanOf f ++ [lrc (spanOf f), 0x03#8] ∧ (spanOf f).head? = some r.op ∧
    4 ≤ f.length ∧ f.length ≤ 10 ∧
    (r.op = 0x33#8 → (spanOf f).length = 1 + 2 + 2) ∧
    (r.op = 0x40#8 ∨ r.op = 0x42#8 → ∃ p : Byte, spanOf f = [r.op, p] ∧ p ≤ 0x1F#8) ∧
    lrc (slice f (cmdOffset f) (f.length - 2)) = 0#8 ∧
    lrc (slice f 1 (f.length - 2)) = 0#8 ∧
    lrc f = 0x01#8 ∧
    (r.op = 0x35#8 ∨ r.op = 0x36#8 → f[f.length - 2]? = some r.op)

/-- R22: an operand a command ignores changes neither its frame nor its error. -/
def Obligations.IgnoredOperandsNeverMatter : Prop :=
  ∀ r r' : Request, r.op = r'.op →
    (r.op = 0x31#8 → r.fl = r'.fl ∧ (r.a2 = 0 ↔ r'.a2 = 0)) →
    (r.op = 0x33#8 → r.a0 = r'.a0 ∧ r.a1 = r'.a1) →
    (r.op = 0x40#8 ∨ r.op = 0x42#8 → r.a0 = r'.a0) →
    buildFrame r = buildFrame r'

/-- Every well-formed command has a frame, and decoding it gives the command back: no bit of an encoding is dropped (R84). -/
def Obligations.DecodeOfEncodeIsTheCommand : Prop :=
  (∀ i : Instr, i.isCommand = true → i.wellFormed = true → ∃ f, encode i = some f) ∧
  ∀ i f, encode i = some f → decodeFrame f = .ok i

/-- Every byte sequence the recogniser accepts is the frame of the well-formed command it names: nothing else is recognised (R84). -/
def Obligations.RecognisedFrameIsTheEncoding : Prop :=
  ∀ f i, decodeFrame f = .ok i → i.wellFormed = true ∧ i.isCommand = true ∧ encode i = some f

/-- The byte sequences the spec lists under recognition decode, or are refused, as it says, with two more frames of V3
(spec/95_test_vectors.md). The names of the verdicts are the model's: R84 says only "not a frame of this block". -/
def Obligations.SampleFramesDecodeAsListed : Prop :=
  decodeFrame [0x02#8, 0x00#8, 0x36#8, 0x36#8, 0x03#8] = .ok .moveToHome ∧
  decodeFrame [0x02#8, 0x42#8, 0x05#8, 0x47#8, 0x03#8] = .ok (.savePreset 5) ∧
  decodeFrame [0x02#8, 0x33#8, 0x84#8, 0x03#8, 0x0F#8, 0x27#8, 0x9C#8, 0x03#8] = .ok (.moveToCoordinate 900 9999) ∧
  decodeFrame [0x02#8, 0x00#8, 0x31#8, 0x00#8, 0x00#8, 0x00#8, 0x31#8, 0x03#8] = .ok (.getStatusJogSpeedN ⟨false, false, false⟩) ∧
  decodeFrame [0x02#8, 0x00#8, 0x36#8, 0x37#8, 0x03#8] = .error .badChecksum ∧
  decodeFrame [0x02#8, 0x36#8, 0x36#8, 0x03#8] = .error .notACommand ∧
  decodeFrame [0x02#8, 0x00#8, 0x35#8, 0x35#8, 0x03#8] = .error .notACommand ∧
  decodeFrame [0x02#8, 0x00#8, 0x40#8, 0x20#8, 0x60#8, 0x03#8] = .error .badIndex ∧
  decodeFrame [0x02#8, 0x33#8, 0x84#8, 0x03#8, 0x0F#8, 0x27#8, 0x9C#8] = .error .wrongLength

/-! ### The transaction controller (spec/43_transaction.md) -/

/-- A step runs the instruction presented: the command the request on the port selects, in the state that has accepted it; a use of a
unit port; and in `SEND` and `WAIT`, the command in progress (R87, R170, R171). That a unit use at the head of the host's list runs before
the block's own step, in any phase, is the model's choice (log entries 1 and 24). -/
def Obligations.StepRunsThePresentedInstruction : Prop :=
  (∀ (s : State) r i, s.host = [] → s.phase = .idle → s.port = some r → decodeRequest r = some i →
    step s = exec i { s with op := r.op, a0 := r.a0, a1 := r.a1, a2 := r.a2, fl := r.fl, port := none }) ∧
  (∀ (s : State) u later, s.host = .useUnit u :: later → step s = exec (decodeUnit u) { s with host := later }) ∧
  ∀ (s : State) i, s.host = [] → s.phase ≠ .idle → i.isCommand = true → step s = exec i s

/-- A wire word that decodes to a command is what the very next step runs, once the word's request stands on the port. How a
word becomes a request on the port is the model's choice, not a rule of the spec (log entry 19). -/
def Obligations.WordOnPortRunsItsCommand : Prop :=
  ∀ (s : State) (nbits w : Nat) (i : Instr), decodeTableWord nbits w = some i →
    ∃ r, encodeRequest i = some r ∧ decodeRequest r = some i ∧
      step (s.withFetchWord nbits w) = exec i ((s.withRequest (some r)).accept r)

/-- Steps (1) and (2), the completion of every command whose arguments its frame can carry: in `IDLE` the whole frame enters `TXBUF`, and
its other bytes keep what they held; `PHASE` becomes `SEND`, and nothing else changes but `ACC`, which holds the frame's checksum (R25 and
R106, by inference: log entry 10). -/
def Obligations.WellFormedCommandLoadsItsFrame : Prop :=
  ∀ (i : Instr) (s : State), i.isCommand = true → i.wellFormed = true → s.phase = .idle →
    ∃ f t, encode i = some f ∧ exec i s = .next t ∧
      t = { s with
        txbuf := Memory.writeBytes s.txbuf 0 f
        txlen := f.length
        phase := .send
        acc := lrc (spanOf f)
        accCleared := true } ∧
      t.txFrame = some f ∧
      ∀ a, f.length ≤ a → Memory.read t.txbuf a = Memory.read s.txbuf a

/-- Steps (1) and (2) for an argument out of range: the command ends at once with its error, nothing sent and nothing else changed
(R149, R172, R201, R202). -/
def Obligations.IllFormedCommandEndsWithItsError : Prop :=
  ∀ s : State, s.phase = .idle →
    (∀ pan tilt, (inSignedShort pan.toInt && inSignedShort tilt.toInt) = false →
      exec (.moveToCoordinate pan tilt) s = .next { s with
        txlen := 0
        rxlen := 0
        phase := .idle
        status := ⟨.outOfRange, false⟩
        responses := s.responses ++ [⟨⟨.outOfRange, false⟩, []⟩] }) ∧
    ∀ index, inPreset index.toInt = false →
      exec (.retrievePreset index) s = .next { s with
        txlen := 0
        rxlen := 0
        phase := .idle
        status := ⟨.presetOutOfRange, false⟩
        responses := s.responses ++ [⟨⟨.presetOutOfRange, false⟩, []⟩] } ∧
      exec (.savePreset index) s = .next { s with
        txlen := 0
        rxlen := 0
        phase := .idle
        status := ⟨.presetOutOfRange, false⟩
        responses := s.responses ++ [⟨⟨.presetOutOfRange, false⟩, []⟩] }

/-- R172: a step that serves a request: it ends with the framer's error, `SENT` = 0, `TXBUF` and the channel untouched; or the frame enters
`TXBUF`. Only `ACC` is left unsaid. -/
def Obligations.ServingBuildsTheFrameOrEnds : Prop :=
  ∀ (s : State) (r : Request), s.host = [] → s.phase = .idle → s.port = some r →
    (∀ e, buildFrame r = .error e → step s = .next { s with
      op := r.op, a0 := r.a0, a1 := r.a1, a2 := r.a2, fl := r.fl, port := none
      txlen := 0
      rxlen := 0
      phase := .idle
      status := ⟨e, false⟩
      responses := s.responses ++ [⟨⟨e, false⟩, []⟩] }) ∧
    ∀ f, buildFrame r = .ok f → ∃ c b, step s = .next { s with
      op := r.op, a0 := r.a0, a1 := r.a1, a2 := r.a2, fl := r.fl, port := none
      txbuf := Memory.writeBytes s.txbuf 0 f
      txlen := f.length
      phase := .send
      acc := c
      accCleared := b }

/-- R173 and R174, for every command: steps (3) and (4) in each answer of the channel, with everything they leave alone. What
`TXBUF` holds once the frame is discarded is left unsaid (R24). -/
def Obligations.SendStepByAnswer : Prop :=
  ∀ (i : Instr) (s : State), i.isCommand = true → s.phase = .send →
    (s.chReady = false → ∃ m, exec i s = .next { s with
      txbuf := m
      txlen := 0
      rxlen := 0
      phase := .idle
      status := ⟨.connectFailed, false⟩
      responses := s.responses ++ [⟨⟨.connectFailed, false⟩, []⟩] }) ∧
    ∀ f, s.chReady = true → s.txFrame = some f →
      (∀ later, s.sendAnswers = .ok :: later → exec i s = .next { s with
        sendAnswers := later
        wire := s.wire ++ f
        history := s.history ++ [.send f .ok]
        phase := .wait }) ∧
      (∀ n later, s.sendAnswers = .failed n :: later → ∃ m, exec i s = .next { s with
        sendAnswers := later
        wire := s.wire ++ f.take n
        history := s.history ++ [.send f .sendFailed]
        txbuf := m
        txlen := 0
        rxlen := 0
        phase := .idle
        status := ⟨.sendFailed, true⟩
        responses := s.responses ++ [⟨⟨.sendFailed, true⟩, []⟩] })

/-- R189, a channel that never answers: the send has no step, so the block is stuck in `SEND`, not finished. That "no answer listed" is the
channel that never answers is the model's reading (log entry 2). -/
def Obligations.UnansweredSendIsStuck : Prop :=
  ∀ (i : Instr) (s : State) (f : Bytes), i.isCommand = true → s.phase = .send → s.chReady = true → s.txFrame = some f →
    (exec i s = .fault .sendUnanswered ↔ s.sendAnswers = [])

/-- R175 and R176, for every command: steps (5) and (6) in each answer of the channel, with everything they leave alone; the reply is
presented, and stands in `RXBUF[0..RXLEN-1]`, exactly as it came. Left unsaid: what `TXBUF` holds once the frame is discarded (R24), and
the bytes of `RXBUF` at and beyond `RXLEN` (`ReceiveStepLeavesTheOtherBytes`). -/
def Obligations.ReceiveStepByAnswer : Prop :=
  ∀ (i : Instr) (s : State), i.isCommand = true → s.phase = .wait →
    (∀ bytes later, s.recvAnswers = .ok bytes :: later → bytes.length ≤ Config.RX_MAX → ∃ t : State,
      exec i s = .next t ∧
      t = { s with
        recvAnswers := later
        history := s.history ++ [.recv (.ok bytes)]
        rxbuf := t.rxbuf
        rxlen := bytes.length
        txbuf := t.txbuf
        txlen := 0
        phase := .idle
        status := ⟨.ok, true⟩
        responses := s.responses ++ [⟨⟨.ok, true⟩, bytes⟩] } ∧
      Memory.readBytes t.rxbuf 0 t.rxlen = some bytes) ∧
    (∀ later, s.recvAnswers = .receiveFailed :: later → ∃ m n, exec i s = .next { s with
      recvAnswers := later
      history := s.history ++ [.recv .receiveFailed]
      txbuf := m
      txlen := 0
      rxbuf := n
      rxlen := 0
      phase := .idle
      status := ⟨.receiveFailed, true⟩
      responses := s.responses ++ [⟨⟨.receiveFailed, true⟩, []⟩] }) ∧
    ∀ later, s.recvAnswers = .timeout :: later → ∃ m n, exec i s = .next { s with
      recvAnswers := later
      history := s.history ++ [.recv .timeout]
      txbuf := m
      txlen := 0
      rxbuf := n
      rxlen := 0
      phase := .idle
      status := ⟨.timeout, true⟩
      responses := s.responses ++ [⟨⟨.timeout, true⟩, []⟩] }

/-- The bytes of `RXBUF` at and beyond the new `RXLEN` keep what they held when a reply arrives, and the whole of it when the receive fails;
`TXBUF` then holds no value at any index. That these bytes are kept, and that a discarded frame has no value, are the model's readings
(log entries 12 and 11). -/
def Obligations.ReceiveStepLeavesTheOtherBytes : Prop :=
  ∀ (i : Instr) (s : State), i.isCommand = true → s.phase = .wait → ∃ t : State,
    exec i s = .next t ∧ t.txbuf = [] ∧
    (t.status.err = .ok → ∃ bytes, t.history = s.history ++ [.recv (.ok bytes)] ∧
      t.rxbuf = Memory.writeBytes s.rxbuf 0 bytes ∧ t.rxlen = bytes.length) ∧
    (t.status.err ≠ .ok → t.rxbuf = s.rxbuf) ∧
    ∀ a, t.rxlen ≤ a → Memory.read t.rxbuf a = Memory.read s.rxbuf a

/-- R177: whatever the channel does, and with no answer listed, a `WAIT` phase ends in one step with one `Recv` event and one response, which
reports that event's answer: `OK` with its bytes, `ReceiveFailed` or `Timeout`. -/
def Obligations.WaitAlwaysEnds : Prop :=
  ∀ (i : Instr) (s : State), i.isCommand = true → s.phase = .wait → ∃ t e bytes a,
    exec i s = .next t ∧ t.phase = .idle ∧ t.txlen = 0 ∧
    (a = .ok bytes ∧ e = .ok ∨ a = .receiveFailed ∧ e = .receiveFailed ∧ bytes = [] ∨ a = .timeout ∧ e = .timeout ∧ bytes = []) ∧
    bytes.length ≤ Config.RX_MAX ∧ t.rxlen = bytes.length ∧ Memory.readBytes t.rxbuf 0 t.rxlen = some bytes ∧
    t.status = ⟨e, true⟩ ∧ t.responses = s.responses ++ [⟨⟨e, true⟩, bytes⟩] ∧ t.history = s.history ++ [.recv a]

/-- R170, all six steps, for every command: from `IDLE`, on an established channel that takes the frame and answers the read, three steps
send exactly the command's frame, return exactly the reply, and leave everything else as it was. The model's own: the cut into three steps
(log entry 22), the checksum that stays in `ACC` (log entry 10), a `TXBUF` that holds no value afterwards (log entry 11), and the bytes of
`RXBUF` beyond the reply, which are kept (log entry 12). -/
def Obligations.TransactionSendsFrameAndReturnsReply : Prop :=
  ∀ (i : Instr) (f : Bytes) (s : State) (bytes : Bytes) sends recvs,
    encode i = some f → s.phase = .idle → s.chReady = true → s.sendAnswers = .ok :: sends →
    s.recvAnswers = .ok bytes :: recvs → bytes.length ≤ Config.RX_MAX →
    ∃ s1 s2, exec i s = .next s1 ∧ exec i s1 = .next s2 ∧
      exec i s2 = .next { s with
        sendAnswers := sends
        recvAnswers := recvs
        wire := s.wire ++ f
        history := s.history ++ [.send f .ok, .recv (.ok bytes)]
        acc := lrc (spanOf f)
        accCleared := true
        txbuf := []
        txlen := 0
        rxbuf := Memory.writeBytes s.rxbuf 0 bytes
        rxlen := bytes.length
        status := ⟨.ok, true⟩
        responses := s.responses ++ [⟨⟨.ok, true⟩, bytes⟩] }

/-- R171: a busy block accepts nothing: the request on the port waits unchanged and the operand registers keep the request being served,
and a host that wants to present one more waits too, which is the model's choice (log entry 1). -/
def Obligations.BusyBlockAcceptsNothing : Prop :=
  ∀ (s t : State), s.phase ≠ .idle →
    (s.host = [] → step s = .next t → t.port = s.port ∧ t.operands = s.operands) ∧
    ∀ q r later, s.port = some q → s.host = .present r :: later → step s = .next t →
      t.port = some q ∧ t.operands = s.operands ∧ t.host = s.host

/-- R21, R28 and R31: the block itself never writes `TMO` nor the level `CH.ready`, and its operand registers change only when it accepts
the request on the port. -/
def Obligations.BlockNeverWritesHostRegisters : Prop :=
  ∀ s t : State, s.host = [] → step s = .next t →
    t.tmo = s.tmo ∧ t.chReady = s.chReady ∧
    (t.operands = s.operands ∨ (s.phase = .idle ∧ s.port = some t.operands ∧ t.port = none))

/-- R60, R188: a step of the block appends at most one event: in `SEND`, on a channel that is ready (R173), the send of exactly the frame
in `TXBUF`, and else nothing; in `WAIT` a receive; in `IDLE` nothing. -/
def Obligations.HistoryGrowsByTheStepOfItsPhase : Prop :=
  ∀ s t : State, s.host = [] → step s = .next t →
    (s.phase = .idle → t.history = s.history) ∧
    (s.phase = .send → t.history = s.history ∧ s.chReady = false ∨
      s.chReady = true ∧ ∃ f a, s.txFrame = some f ∧ t.history = s.history ++ [.send f a]) ∧
    (s.phase = .wait → ∃ a, t.history = s.history ++ [.recv a])

/-- R24 and R26: which bytes of the two buffers a step of the block can change. `TXBUF` keeps its bytes while it waits for the reply and
changes at acceptance only below the new `TXLEN`; `RXBUF` changes only when a reply arrives, below the new `RXLEN`. By the model's readings, the bytes of
`RXBUF` beyond `RXLEN` are kept (log entry 12), and `TXBUF` holds no value once its transaction has ended (log entry 11). -/
def Obligations.BuffersChangeOnlyByTheirRules : Prop :=
  ∀ (s t : State) (a : Nat), s.host = [] → step s = .next t →
    (s.phase ≠ .wait ∨ t.rxlen ≤ a → Memory.read t.rxbuf a = Memory.read s.rxbuf a) ∧
    (s.phase = .send → t.phase = .wait → t.txbuf = s.txbuf ∧ t.txlen = s.txlen) ∧
    (s.phase = .idle → t.txlen ≤ a ∨ t.phase = .idle → Memory.read t.txbuf a = Memory.read s.txbuf a) ∧
    (s.phase ≠ .idle → t.phase = .idle → Memory.read t.txbuf a = none)

/-- R57: what reaches the PTR: the whole frame when the send is answered ok, some prefix of it when it fails, nothing otherwise. -/
def Obligations.WireCarriesFramesOrPrefixes : Prop :=
  ∀ s t : State, s.host = [] → step s = .next t →
    (t.wire = s.wire ∧ t.history = s.history) ∨ (t.wire = s.wire ∧ ∃ a, t.history = s.history ++ [.recv a]) ∨
    (∃ f, s.txFrame = some f ∧ t.wire = s.wire ++ f ∧ t.history = s.history ++ [.send f .ok]) ∨
    ∃ f p, s.txFrame = some f ∧ p <+: f ∧ t.wire = s.wire ++ p ∧ t.history = s.history ++ [.send f .sendFailed]

/-- R176, R210: the content of a reply steers nothing: two channels that answer the read with different bytes leave states that differ
only in the reply itself. Each records exactly one event and presents exactly one response, `OK` with the bytes that came; `RXBUF` and
`RXLEN` are the rest of the difference. That a reply longer than `RX_MAX`, which R175 excludes, is cut is the model's (log entry 4). -/
def Obligations.ReplyContentSteersNothing : Prop :=
  ∀ (i : Instr) (s : State) (b1 b2 : Bytes) later, i.isCommand = true → s.phase = .wait → ∃ t1 t2 : State,
    exec i { s with recvAnswers := .ok b1 :: later } = .next t1 ∧
    exec i { s with recvAnswers := .ok b2 :: later } = .next t2 ∧
    t1.status = ⟨.ok, true⟩ ∧
    t1.history = s.history ++ [.recv (.ok (b1.take Config.RX_MAX))] ∧
    t2.history = s.history ++ [.recv (.ok (b2.take Config.RX_MAX))] ∧
    t1.responses = s.responses ++ [⟨⟨.ok, true⟩, b1.take Config.RX_MAX⟩] ∧
    t2.responses = s.responses ++ [⟨⟨.ok, true⟩, b2.take Config.RX_MAX⟩] ∧
    t1 = { t2 with rxbuf := t1.rxbuf, rxlen := t1.rxlen, history := t1.history, responses := t1.responses }

/-- R189: every accepted request gets its response: from `IDLE`, given a channel that answers a send, the block alone presents exactly one
response, with at most one send, of the request's frame, and at most one receive, after a send answered ok (R61, R178). That three steps
are enough is the model's cut of a transaction (log entry 22). -/
def Obligations.AcceptedRequestIsAnsweredInThreeSteps : Prop :=
  ∀ (s : State) (r : Request), s.host = [] → s.phase = .idle → s.port = some r → s.sendAnswers ≠ [] →
    ∃ k t resp, k ≤ 3 ∧ Host.Core.run Sys2Proof.core k s = .next t ∧
      State.phase t = .idle ∧ State.port t = none ∧ State.operands t = r ∧
      State.responses t = s.responses ++ [resp] ∧ State.status t = resp.status ∧ ResponseOk resp ∧
      (State.history t = s.history ∨ ∃ f, buildFrame r = .ok f ∧
        (State.history t = s.history ++ [.send f .sendFailed] ∨
          ∃ a, State.history t = s.history ++ [.send f .ok, .recv a]))

/-! ### Errors (spec/60_exceptions.md) -/

/-- R212: when a step of the block ends a transaction with an error, what changes and what does not. An error of the input class leaves
the buffers, the wire and `H` as they were; an error of the link class leaves in `H` exactly the operation attempted. -/
def Obligations.ErrorEntryChangesThisOnly : Prop :=
  ∀ (s t : State) (resp : Response), s.host = [] → step s = .next t → t.responses = s.responses ++ [resp] →
    resp.status.err ≠ .ok →
    t.status = resp.status ∧ resp.bytes = [] ∧ resp.status.sent = sentColumn resp.status.err ∧
    t.txlen = 0 ∧ t.rxlen = 0 ∧ t.phase = .idle ∧
    t.tmo = s.tmo ∧ t.chReady = s.chReady ∧ t.rxbuf = s.rxbuf ∧ t.acc = s.acc ∧ t.accCleared = s.accCleared ∧
    t.unitResults = s.unitResults ∧
    (t.operands = s.operands ∧ t.port = s.port ∨ s.port = some t.operands ∧ t.port = none) ∧
    (isInputError resp.status.err = true →
      t.history = s.history ∧ t.wire = s.wire ∧ t.txbuf = s.txbuf ∧ s.phase = .idle ∧
      t.sendAnswers = s.sendAnswers ∧ t.recvAnswers = s.recvAnswers) ∧
    (resp.status.err = .connectFailed → t.history = s.history) ∧
    (resp.status.err = .sendFailed → ∃ f, s.txFrame = some f ∧ t.history = s.history ++ [.send f .sendFailed]) ∧
    (resp.status.err = .receiveFailed → t.history = s.history ++ [.recv .receiveFailed]) ∧
    (resp.status.err = .timeout → t.history = s.history ++ [.recv .timeout])

/-- R208: a request with an unlisted command byte, whatever its other operands and the channel, ends at once with `IllegalCommand`, which is of
the input class. -/
def Obligations.UnlistedCommandIsIllegal : Prop :=
  isInputError .illegalCommand = true ∧ ∀ (s : State) (r : Request), s.host = [] → s.phase = .idle → s.port = some r →
    r.op ≠ 0x31#8 → r.op ≠ 0x33#8 → r.op ≠ 0x35#8 → r.op ≠ 0x36#8 → r.op ≠ 0x40#8 → r.op ≠ 0x42#8 →
    step s = .next { s with
      op := r.op, a0 := r.a0, a1 := r.a1, a2 := r.a2, fl := r.fl, port := none
      txlen := 0
      rxlen := 0
      phase := .idle
      status := ⟨.illegalCommand, false⟩
      responses := s.responses ++ [⟨⟨.illegalCommand, false⟩, []⟩] }

/-- R214: the two classes: every error is in exactly one, by its number, and the input class never has `SENT` = 1 in a good response. -/
def Obligations.ErrorClassesAreTellable : Prop :=
  (∀ e : ErrCode, e ≠ .ok → (isInputError e = true ↔ isLinkError e = false)) ∧
  (∀ e : ErrCode, isInputError e = true ↔ errNumber e = 1 ∨ errNumber e = 2 ∨ errNumber e = 3 ∨ errNumber e = 8) ∧
  (∀ e : ErrCode, isLinkError e = true ↔ errNumber e = 4 ∨ errNumber e = 5 ∨ errNumber e = 6 ∨ errNumber e = 7) ∧
  ∀ r : Response, ResponseOk r → isInputError r.status.err = true → r.status.sent = false

/-- R27, R200: the numbers of the results, and `STATUS` as the host reads it, `ERR` in bits 3 to 0 and `SENT` in bit 4. -/
def Obligations.StatusBitsAreErrAndSent : Prop :=
  ([ErrCode.ok, .outOfRange, .presetOutOfRange, .invalidInput, .connectFailed, .sendFailed, .receiveFailed, .timeout,
    .illegalCommand].map errNumber = [0, 1, 2, 3, 4, 5, 6, 7, 8]) ∧
  ∀ s : Status, (statusBits s).extractLsb' 0 4 = errNumber s.err ∧ (statusBits s).getLsbD 4 = s.sent

/-! ### Reset and the host's acts (spec/70_reset_and_hazards.md) -/

/-- R36, R240: the values the spec gives for reset; no byte of the buffers holds a value. -/
def Obligations.ResetHoldsTheGivenValues : Prop :=
  State.reset.phase = .idle ∧ State.reset.txlen = 0 ∧ State.reset.rxlen = 0 ∧ State.reset.status = ⟨.ok, false⟩ ∧
  State.reset.history = [] ∧ State.reset.chReady = false ∧
  ∀ a, Memory.read State.reset.txbuf a = none ∧ Memory.read State.reset.rxbuf a = none

/-- R241: `rst` in any phase: the reset values, no response for the transaction abandoned, the channel not closed, the answer of an
outstanding receive lost. That the responses and unit results already presented stay listed is the model's choice (log entry 15). -/
def Obligations.ResetAbandonsTheTransaction : Prop :=
  ∀ (s : State) later, s.host = .rst :: later → ∃ t, step s = .next t ∧
    t.phase = .idle ∧ t.txlen = 0 ∧ t.rxlen = 0 ∧ t.status = ⟨.ok, false⟩ ∧ t.history = [] ∧
    (∀ a, Memory.read t.txbuf a = none ∧ Memory.read t.rxbuf a = none) ∧
    t.responses = s.responses ∧ t.chReady = s.chReady ∧ t.wire = s.wire ∧ t.sendAnswers = s.sendAnswers ∧
    (s.phase = .wait → t.recvAnswers = s.recvAnswers.tail) ∧ (s.phase ≠ .wait → t.recvAnswers = s.recvAnswers)

/-- R28, R31: each act of the host changes its one register or port, in any phase. That the host acts before the block where both could
is the model's choice (log entry 1), and so is what a failed `connect` leaves (log entry 16). -/
def Obligations.HostActsChangeTheirOwnState : Prop :=
  ∀ (s : State) later,
    (∀ v, s.host = .writeTmo v :: later → step s = .next { s with host := later, tmo := v }) ∧
    (s.host = .connect true :: later → step s = .next { s with host := later, chReady := true }) ∧
    (s.host = .connect false :: later → step s = .next { s with host := later }) ∧
    (s.host = .close :: later → step s = .next { s with host := later, chReady := false }) ∧
    (∀ r, s.host = .present r :: later → s.port = none → step s = .next { s with host := later, port := some r }) ∧
    (s.host = .pass :: later →
      (∀ t : State, step { s with host := [] } = .next t → step s = .next { t with host := later }) ∧
      ∀ r, step { s with host := [] } = .fault r → step s = .fault r)

/-! ### Invariants -/

/-- R37: every step keeps the state invariant. -/
def Obligations.StepKeepsStateInvariant : Prop :=
  ∀ s t : State, StateInv s → step s = .next t → StateInv t

/-- R37: the state after reset has the state invariant. -/
def Obligations.ResetHasStateInvariant : Prop := StateInv State.reset

/-- R60, R61, R188: every step keeps the history a sequence of complete groups, open only in `WAIT`, and every frame in it one the framer
built. The state invariant is the premise that rules out unreachable buffers. -/
def Obligations.StepKeepsHistoryGrouped : Prop :=
  ∀ s t : State, StateInv s → HistoryInv s → step s = .next t → HistoryInv t

/-- The history after reset is grouped. -/
def Obligations.ResetHasGroupedHistory : Prop := HistoryInv State.reset

/-- R27, R186, R200: every step keeps every response one of the eight endings, with the `SENT` of its row and bytes only on success. -/
def Obligations.StepKeepsResponsesGood : Prop :=
  ∀ s t : State, ResponsesInv s → step s = .next t → ResponsesInv t

/-- No response has been presented after reset, so every response is a good one. -/
def Obligations.ResetHasGoodResponses : Prop := State.reset.responses = [] ∧ ResponsesInv State.reset
end

