-- ==== Sys2Proof/Laws/State.lean ====
section
/-! SUPPORT. What each named update of State leaves in each field, one lemma each, so that no later proof unfolds a record update. -/

namespace Sys2Proof.Machine

variable (s : State)

/-! ### State.record -/

@[simp] theorem State.record_op (e : Event) : (s.record e).op = s.op := rfl
@[simp] theorem State.record_a0 (e : Event) : (s.record e).a0 = s.a0 := rfl
@[simp] theorem State.record_a1 (e : Event) : (s.record e).a1 = s.a1 := rfl
@[simp] theorem State.record_a2 (e : Event) : (s.record e).a2 = s.a2 := rfl
@[simp] theorem State.record_fl (e : Event) : (s.record e).fl = s.fl := rfl
@[simp] theorem State.record_phase (e : Event) : (s.record e).phase = s.phase := rfl
@[simp] theorem State.record_txbuf (e : Event) : (s.record e).txbuf = s.txbuf := rfl
@[simp] theorem State.record_txlen (e : Event) : (s.record e).txlen = s.txlen := rfl
@[simp] theorem State.record_acc (e : Event) : (s.record e).acc = s.acc := rfl
@[simp] theorem State.record_accCleared (e : Event) : (s.record e).accCleared = s.accCleared := rfl
@[simp] theorem State.record_rxbuf (e : Event) : (s.record e).rxbuf = s.rxbuf := rfl
@[simp] theorem State.record_rxlen (e : Event) : (s.record e).rxlen = s.rxlen := rfl
@[simp] theorem State.record_status (e : Event) : (s.record e).status = s.status := rfl
@[simp] theorem State.record_tmo (e : Event) : (s.record e).tmo = s.tmo := rfl
@[simp] theorem State.record_chReady (e : Event) : (s.record e).chReady = s.chReady := rfl
@[simp] theorem State.record_wire (e : Event) : (s.record e).wire = s.wire := rfl
@[simp] theorem State.record_history (e : Event) : (s.record e).history = s.history ++ [e] := rfl
@[simp] theorem State.record_responses (e : Event) : (s.record e).responses = s.responses := rfl
@[simp] theorem State.record_unitResults (e : Event) : (s.record e).unitResults = s.unitResults := rfl
@[simp] theorem State.record_port (e : Event) : (s.record e).port = s.port := rfl
@[simp] theorem State.record_host (e : Event) : (s.record e).host = s.host := rfl
@[simp] theorem State.record_sendAnswers (e : Event) : (s.record e).sendAnswers = s.sendAnswers := rfl
@[simp] theorem State.record_recvAnswers (e : Event) : (s.record e).recvAnswers = s.recvAnswers := rfl
@[simp] theorem State.record_draws (e : Event) : (s.record e).draws = s.draws := rfl

/-! ### State.chSend -/

@[simp] theorem State.chSend_op (f r : Bytes) (a : SendResult) : (s.chSend f r a).op = s.op := rfl
@[simp] theorem State.chSend_a0 (f r : Bytes) (a : SendResult) : (s.chSend f r a).a0 = s.a0 := rfl
@[simp] theorem State.chSend_a1 (f r : Bytes) (a : SendResult) : (s.chSend f r a).a1 = s.a1 := rfl
@[simp] theorem State.chSend_a2 (f r : Bytes) (a : SendResult) : (s.chSend f r a).a2 = s.a2 := rfl
@[simp] theorem State.chSend_fl (f r : Bytes) (a : SendResult) : (s.chSend f r a).fl = s.fl := rfl
@[simp] theorem State.chSend_phase (f r : Bytes) (a : SendResult) : (s.chSend f r a).phase = s.phase := rfl
@[simp] theorem State.chSend_txbuf (f r : Bytes) (a : SendResult) : (s.chSend f r a).txbuf = s.txbuf := rfl
@[simp] theorem State.chSend_txlen (f r : Bytes) (a : SendResult) : (s.chSend f r a).txlen = s.txlen := rfl
@[simp] theorem State.chSend_acc (f r : Bytes) (a : SendResult) : (s.chSend f r a).acc = s.acc := rfl
@[simp] theorem State.chSend_accCleared (f r : Bytes) (a : SendResult) : (s.chSend f r a).accCleared = s.accCleared := rfl
@[simp] theorem State.chSend_rxbuf (f r : Bytes) (a : SendResult) : (s.chSend f r a).rxbuf = s.rxbuf := rfl
@[simp] theorem State.chSend_rxlen (f r : Bytes) (a : SendResult) : (s.chSend f r a).rxlen = s.rxlen := rfl
@[simp] theorem State.chSend_status (f r : Bytes) (a : SendResult) : (s.chSend f r a).status = s.status := rfl
@[simp] theorem State.chSend_tmo (f r : Bytes) (a : SendResult) : (s.chSend f r a).tmo = s.tmo := rfl
@[simp] theorem State.chSend_chReady (f r : Bytes) (a : SendResult) : (s.chSend f r a).chReady = s.chReady := rfl
@[simp] theorem State.chSend_wire (f r : Bytes) (a : SendResult) : (s.chSend f r a).wire = s.wire ++ r := rfl
@[simp] theorem State.chSend_history (f r : Bytes) (a : SendResult) : (s.chSend f r a).history = s.history ++ [.send f a] := rfl
@[simp] theorem State.chSend_responses (f r : Bytes) (a : SendResult) : (s.chSend f r a).responses = s.responses := rfl
@[simp] theorem State.chSend_unitResults (f r : Bytes) (a : SendResult) : (s.chSend f r a).unitResults = s.unitResults := rfl
@[simp] theorem State.chSend_port (f r : Bytes) (a : SendResult) : (s.chSend f r a).port = s.port := rfl
@[simp] theorem State.chSend_host (f r : Bytes) (a : SendResult) : (s.chSend f r a).host = s.host := rfl
@[simp] theorem State.chSend_sendAnswers (f r : Bytes) (a : SendResult) : (s.chSend f r a).sendAnswers = s.sendAnswers.tail := rfl
@[simp] theorem State.chSend_recvAnswers (f r : Bytes) (a : SendResult) : (s.chSend f r a).recvAnswers = s.recvAnswers := rfl
@[simp] theorem State.chSend_draws (f r : Bytes) (a : SendResult) : (s.chSend f r a).draws = s.draws := rfl

/-! ### State.awaitReply -/

@[simp] theorem State.awaitReply_op : s.awaitReply.op = s.op := rfl
@[simp] theorem State.awaitReply_a0 : s.awaitReply.a0 = s.a0 := rfl
@[simp] theorem State.awaitReply_a1 : s.awaitReply.a1 = s.a1 := rfl
@[simp] theorem State.awaitReply_a2 : s.awaitReply.a2 = s.a2 := rfl
@[simp] theorem State.awaitReply_fl : s.awaitReply.fl = s.fl := rfl
@[simp] theorem State.awaitReply_phase : s.awaitReply.phase = .wait := rfl
@[simp] theorem State.awaitReply_txbuf : s.awaitReply.txbuf = s.txbuf := rfl
@[simp] theorem State.awaitReply_txlen : s.awaitReply.txlen = s.txlen := rfl
@[simp] theorem State.awaitReply_acc : s.awaitReply.acc = s.acc := rfl
@[simp] theorem State.awaitReply_accCleared : s.awaitReply.accCleared = s.accCleared := rfl
@[simp] theorem State.awaitReply_rxbuf : s.awaitReply.rxbuf = s.rxbuf := rfl
@[simp] theorem State.awaitReply_rxlen : s.awaitReply.rxlen = s.rxlen := rfl
@[simp] theorem State.awaitReply_status : s.awaitReply.status = s.status := rfl
@[simp] theorem State.awaitReply_tmo : s.awaitReply.tmo = s.tmo := rfl
@[simp] theorem State.awaitReply_chReady : s.awaitReply.chReady = s.chReady := rfl
@[simp] theorem State.awaitReply_wire : s.awaitReply.wire = s.wire := rfl
@[simp] theorem State.awaitReply_history : s.awaitReply.history = s.history := rfl
@[simp] theorem State.awaitReply_responses : s.awaitReply.responses = s.responses := rfl
@[simp] theorem State.awaitReply_unitResults : s.awaitReply.unitResults = s.unitResults := rfl
@[simp] theorem State.awaitReply_port : s.awaitReply.port = s.port := rfl
@[simp] theorem State.awaitReply_host : s.awaitReply.host = s.host := rfl
@[simp] theorem State.awaitReply_sendAnswers : s.awaitReply.sendAnswers = s.sendAnswers := rfl
@[simp] theorem State.awaitReply_recvAnswers : s.awaitReply.recvAnswers = s.recvAnswers := rfl
@[simp] theorem State.awaitReply_draws : s.awaitReply.draws = s.draws := rfl

/-! ### State.recvTaken -/

@[simp] theorem State.recvTaken_op : s.recvTaken.op = s.op := rfl
@[simp] theorem State.recvTaken_a0 : s.recvTaken.a0 = s.a0 := rfl
@[simp] theorem State.recvTaken_a1 : s.recvTaken.a1 = s.a1 := rfl
@[simp] theorem State.recvTaken_a2 : s.recvTaken.a2 = s.a2 := rfl
@[simp] theorem State.recvTaken_fl : s.recvTaken.fl = s.fl := rfl
@[simp] theorem State.recvTaken_phase : s.recvTaken.phase = s.phase := rfl
@[simp] theorem State.recvTaken_txbuf : s.recvTaken.txbuf = s.txbuf := rfl
@[simp] theorem State.recvTaken_txlen : s.recvTaken.txlen = s.txlen := rfl
@[simp] theorem State.recvTaken_acc : s.recvTaken.acc = s.acc := rfl
@[simp] theorem State.recvTaken_accCleared : s.recvTaken.accCleared = s.accCleared := rfl
@[simp] theorem State.recvTaken_rxbuf : s.recvTaken.rxbuf = s.rxbuf := rfl
@[simp] theorem State.recvTaken_rxlen : s.recvTaken.rxlen = s.rxlen := rfl
@[simp] theorem State.recvTaken_status : s.recvTaken.status = s.status := rfl
@[simp] theorem State.recvTaken_tmo : s.recvTaken.tmo = s.tmo := rfl
@[simp] theorem State.recvTaken_chReady : s.recvTaken.chReady = s.chReady := rfl
@[simp] theorem State.recvTaken_wire : s.recvTaken.wire = s.wire := rfl
@[simp] theorem State.recvTaken_history : s.recvTaken.history = s.history := rfl
@[simp] theorem State.recvTaken_responses : s.recvTaken.responses = s.responses := rfl
@[simp] theorem State.recvTaken_unitResults : s.recvTaken.unitResults = s.unitResults := rfl
@[simp] theorem State.recvTaken_port : s.recvTaken.port = s.port := rfl
@[simp] theorem State.recvTaken_host : s.recvTaken.host = s.host := rfl
@[simp] theorem State.recvTaken_sendAnswers : s.recvTaken.sendAnswers = s.sendAnswers := rfl
@[simp] theorem State.recvTaken_recvAnswers : s.recvTaken.recvAnswers = s.recvAnswers.tail := rfl
@[simp] theorem State.recvTaken_draws : s.recvTaken.draws = if s.recvAnswers.isEmpty then s.draws + 1 else s.draws := rfl

/-! ### State.accept -/

@[simp] theorem State.accept_op (r : Request) : (s.accept r).op = r.op := rfl
@[simp] theorem State.accept_a0 (r : Request) : (s.accept r).a0 = r.a0 := rfl
@[simp] theorem State.accept_a1 (r : Request) : (s.accept r).a1 = r.a1 := rfl
@[simp] theorem State.accept_a2 (r : Request) : (s.accept r).a2 = r.a2 := rfl
@[simp] theorem State.accept_fl (r : Request) : (s.accept r).fl = r.fl := rfl
@[simp] theorem State.accept_phase (r : Request) : (s.accept r).phase = s.phase := rfl
@[simp] theorem State.accept_txbuf (r : Request) : (s.accept r).txbuf = s.txbuf := rfl
@[simp] theorem State.accept_txlen (r : Request) : (s.accept r).txlen = s.txlen := rfl
@[simp] theorem State.accept_acc (r : Request) : (s.accept r).acc = s.acc := rfl
@[simp] theorem State.accept_accCleared (r : Request) : (s.accept r).accCleared = s.accCleared := rfl
@[simp] theorem State.accept_rxbuf (r : Request) : (s.accept r).rxbuf = s.rxbuf := rfl
@[simp] theorem State.accept_rxlen (r : Request) : (s.accept r).rxlen = s.rxlen := rfl
@[simp] theorem State.accept_status (r : Request) : (s.accept r).status = s.status := rfl
@[simp] theorem State.accept_tmo (r : Request) : (s.accept r).tmo = s.tmo := rfl
@[simp] theorem State.accept_chReady (r : Request) : (s.accept r).chReady = s.chReady := rfl
@[simp] theorem State.accept_wire (r : Request) : (s.accept r).wire = s.wire := rfl
@[simp] theorem State.accept_history (r : Request) : (s.accept r).history = s.history := rfl
@[simp] theorem State.accept_responses (r : Request) : (s.accept r).responses = s.responses := rfl
@[simp] theorem State.accept_unitResults (r : Request) : (s.accept r).unitResults = s.unitResults := rfl
@[simp] theorem State.accept_port (r : Request) : (s.accept r).port = none := rfl
@[simp] theorem State.accept_host (r : Request) : (s.accept r).host = s.host := rfl
@[simp] theorem State.accept_sendAnswers (r : Request) : (s.accept r).sendAnswers = s.sendAnswers := rfl
@[simp] theorem State.accept_recvAnswers (r : Request) : (s.accept r).recvAnswers = s.recvAnswers := rfl
@[simp] theorem State.accept_draws (r : Request) : (s.accept r).draws = s.draws := rfl

/-! ### State.respond -/

@[simp] theorem State.respond_op (st : Status) (bytes : Bytes) : (s.respond st bytes).op = s.op := rfl
@[simp] theorem State.respond_a0 (st : Status) (bytes : Bytes) : (s.respond st bytes).a0 = s.a0 := rfl
@[simp] theorem State.respond_a1 (st : Status) (bytes : Bytes) : (s.respond st bytes).a1 = s.a1 := rfl
@[simp] theorem State.respond_a2 (st : Status) (bytes : Bytes) : (s.respond st bytes).a2 = s.a2 := rfl
@[simp] theorem State.respond_fl (st : Status) (bytes : Bytes) : (s.respond st bytes).fl = s.fl := rfl
@[simp] theorem State.respond_phase (st : Status) (bytes : Bytes) : (s.respond st bytes).phase = s.phase := rfl
@[simp] theorem State.respond_txbuf (st : Status) (bytes : Bytes) : (s.respond st bytes).txbuf = s.txbuf := rfl
@[simp] theorem State.respond_txlen (st : Status) (bytes : Bytes) : (s.respond st bytes).txlen = s.txlen := rfl
@[simp] theorem State.respond_acc (st : Status) (bytes : Bytes) : (s.respond st bytes).acc = s.acc := rfl
@[simp] theorem State.respond_accCleared (st : Status) (bytes : Bytes) : (s.respond st bytes).accCleared = s.accCleared := rfl
@[simp] theorem State.respond_rxbuf (st : Status) (bytes : Bytes) : (s.respond st bytes).rxbuf = s.rxbuf := rfl
@[simp] theorem State.respond_rxlen (st : Status) (bytes : Bytes) : (s.respond st bytes).rxlen = s.rxlen := rfl
@[simp] theorem State.respond_status (st : Status) (bytes : Bytes) : (s.respond st bytes).status = st := rfl
@[simp] theorem State.respond_tmo (st : Status) (bytes : Bytes) : (s.respond st bytes).tmo = s.tmo := rfl
@[simp] theorem State.respond_chReady (st : Status) (bytes : Bytes) : (s.respond st bytes).chReady = s.chReady := rfl
@[simp] theorem State.respond_wire (st : Status) (bytes : Bytes) : (s.respond st bytes).wire = s.wire := rfl
@[simp] theorem State.respond_history (st : Status) (bytes : Bytes) : (s.respond st bytes).history = s.history := rfl
@[simp] theorem State.respond_responses (st : Status) (bytes : Bytes) : (s.respond st bytes).responses = s.responses ++ [⟨st, bytes⟩] := rfl
@[simp] theorem State.respond_unitResults (st : Status) (bytes : Bytes) : (s.respond st bytes).unitResults = s.unitResults := rfl
@[simp] theorem State.respond_port (st : Status) (bytes : Bytes) : (s.respond st bytes).port = s.port := rfl
@[simp] theorem State.respond_host (st : Status) (bytes : Bytes) : (s.respond st bytes).host = s.host := rfl
@[simp] theorem State.respond_sendAnswers (st : Status) (bytes : Bytes) : (s.respond st bytes).sendAnswers = s.sendAnswers := rfl
@[simp] theorem State.respond_recvAnswers (st : Status) (bytes : Bytes) : (s.respond st bytes).recvAnswers = s.recvAnswers := rfl
@[simp] theorem State.respond_draws (st : Status) (bytes : Bytes) : (s.respond st bytes).draws = s.draws := rfl

/-! ### State.takeError -/

@[simp] theorem State.takeError_op (e : ErrCode) (sent : Bool) : (s.takeError e sent).op = s.op := rfl
@[simp] theorem State.takeError_a0 (e : ErrCode) (sent : Bool) : (s.takeError e sent).a0 = s.a0 := rfl
@[simp] theorem State.takeError_a1 (e : ErrCode) (sent : Bool) : (s.takeError e sent).a1 = s.a1 := rfl
@[simp] theorem State.takeError_a2 (e : ErrCode) (sent : Bool) : (s.takeError e sent).a2 = s.a2 := rfl
@[simp] theorem State.takeError_fl (e : ErrCode) (sent : Bool) : (s.takeError e sent).fl = s.fl := rfl
@[simp] theorem State.takeError_phase (e : ErrCode) (sent : Bool) : (s.takeError e sent).phase = .idle := rfl
@[simp] theorem State.takeError_txbuf (e : ErrCode) (sent : Bool) : (s.takeError e sent).txbuf = s.txbuf := rfl
@[simp] theorem State.takeError_txlen (e : ErrCode) (sent : Bool) : (s.takeError e sent).txlen = 0 := rfl
@[simp] theorem State.takeError_acc (e : ErrCode) (sent : Bool) : (s.takeError e sent).acc = s.acc := rfl
@[simp] theorem State.takeError_accCleared (e : ErrCode) (sent : Bool) : (s.takeError e sent).accCleared = s.accCleared := rfl
@[simp] theorem State.takeError_rxbuf (e : ErrCode) (sent : Bool) : (s.takeError e sent).rxbuf = s.rxbuf := rfl
@[simp] theorem State.takeError_rxlen (e : ErrCode) (sent : Bool) : (s.takeError e sent).rxlen = 0 := rfl
@[simp] theorem State.takeError_status (e : ErrCode) (sent : Bool) : (s.takeError e sent).status = ⟨e, sent⟩ := rfl
@[simp] theorem State.takeError_tmo (e : ErrCode) (sent : Bool) : (s.takeError e sent).tmo = s.tmo := rfl
@[simp] theorem State.takeError_chReady (e : ErrCode) (sent : Bool) : (s.takeError e sent).chReady = s.chReady := rfl
@[simp] theorem State.takeError_wire (e : ErrCode) (sent : Bool) : (s.takeError e sent).wire = s.wire := rfl
@[simp] theorem State.takeError_history (e : ErrCode) (sent : Bool) : (s.takeError e sent).history = s.history := rfl
@[simp] theorem State.takeError_responses (e : ErrCode) (sent : Bool) : (s.takeError e sent).responses = s.responses ++ [⟨⟨e, sent⟩, []⟩] := rfl
@[simp] theorem State.takeError_unitResults (e : ErrCode) (sent : Bool) : (s.takeError e sent).unitResults = s.unitResults := rfl
@[simp] theorem State.takeError_port (e : ErrCode) (sent : Bool) : (s.takeError e sent).port = s.port := rfl
@[simp] theorem State.takeError_host (e : ErrCode) (sent : Bool) : (s.takeError e sent).host = s.host := rfl
@[simp] theorem State.takeError_sendAnswers (e : ErrCode) (sent : Bool) : (s.takeError e sent).sendAnswers = s.sendAnswers := rfl
@[simp] theorem State.takeError_recvAnswers (e : ErrCode) (sent : Bool) : (s.takeError e sent).recvAnswers = s.recvAnswers := rfl
@[simp] theorem State.takeError_draws (e : ErrCode) (sent : Bool) : (s.takeError e sent).draws = s.draws := rfl

/-! ### State.discardFrame -/

@[simp] theorem State.discardFrame_op : s.discardFrame.op = s.op := rfl
@[simp] theorem State.discardFrame_a0 : s.discardFrame.a0 = s.a0 := rfl
@[simp] theorem State.discardFrame_a1 : s.discardFrame.a1 = s.a1 := rfl
@[simp] theorem State.discardFrame_a2 : s.discardFrame.a2 = s.a2 := rfl
@[simp] theorem State.discardFrame_fl : s.discardFrame.fl = s.fl := rfl
@[simp] theorem State.discardFrame_phase : s.discardFrame.phase = s.phase := rfl
@[simp] theorem State.discardFrame_txbuf : s.discardFrame.txbuf = [] := rfl
@[simp] theorem State.discardFrame_txlen : s.discardFrame.txlen = 0 := rfl
@[simp] theorem State.discardFrame_acc : s.discardFrame.acc = s.acc := rfl
@[simp] theorem State.discardFrame_accCleared : s.discardFrame.accCleared = s.accCleared := rfl
@[simp] theorem State.discardFrame_rxbuf : s.discardFrame.rxbuf = s.rxbuf := rfl
@[simp] theorem State.discardFrame_rxlen : s.discardFrame.rxlen = s.rxlen := rfl
@[simp] theorem State.discardFrame_status : s.discardFrame.status = s.status := rfl
@[simp] theorem State.discardFrame_tmo : s.discardFrame.tmo = s.tmo := rfl
@[simp] theorem State.discardFrame_chReady : s.discardFrame.chReady = s.chReady := rfl
@[simp] theorem State.discardFrame_wire : s.discardFrame.wire = s.wire := rfl
@[simp] theorem State.discardFrame_history : s.discardFrame.history = s.history := rfl
@[simp] theorem State.discardFrame_responses : s.discardFrame.responses = s.responses := rfl
@[simp] theorem State.discardFrame_unitResults : s.discardFrame.unitResults = s.unitResults := rfl
@[simp] theorem State.discardFrame_port : s.discardFrame.port = s.port := rfl
@[simp] theorem State.discardFrame_host : s.discardFrame.host = s.host := rfl
@[simp] theorem State.discardFrame_sendAnswers : s.discardFrame.sendAnswers = s.sendAnswers := rfl
@[simp] theorem State.discardFrame_recvAnswers : s.discardFrame.recvAnswers = s.recvAnswers := rfl
@[simp] theorem State.discardFrame_draws : s.discardFrame.draws = s.draws := rfl

/-! ### State.abort -/

@[simp] theorem State.abort_op (e : ErrCode) (sent : Bool) : (s.abort e sent).op = s.op := rfl
@[simp] theorem State.abort_a0 (e : ErrCode) (sent : Bool) : (s.abort e sent).a0 = s.a0 := rfl
@[simp] theorem State.abort_a1 (e : ErrCode) (sent : Bool) : (s.abort e sent).a1 = s.a1 := rfl
@[simp] theorem State.abort_a2 (e : ErrCode) (sent : Bool) : (s.abort e sent).a2 = s.a2 := rfl
@[simp] theorem State.abort_fl (e : ErrCode) (sent : Bool) : (s.abort e sent).fl = s.fl := rfl
@[simp] theorem State.abort_phase (e : ErrCode) (sent : Bool) : (s.abort e sent).phase = .idle := rfl
@[simp] theorem State.abort_txbuf (e : ErrCode) (sent : Bool) : (s.abort e sent).txbuf = [] := rfl
@[simp] theorem State.abort_txlen (e : ErrCode) (sent : Bool) : (s.abort e sent).txlen = 0 := rfl
@[simp] theorem State.abort_acc (e : ErrCode) (sent : Bool) : (s.abort e sent).acc = s.acc := rfl
@[simp] theorem State.abort_accCleared (e : ErrCode) (sent : Bool) : (s.abort e sent).accCleared = s.accCleared := rfl
@[simp] theorem State.abort_rxbuf (e : ErrCode) (sent : Bool) : (s.abort e sent).rxbuf = s.rxbuf := rfl
@[simp] theorem State.abort_rxlen (e : ErrCode) (sent : Bool) : (s.abort e sent).rxlen = 0 := rfl
@[simp] theorem State.abort_status (e : ErrCode) (sent : Bool) : (s.abort e sent).status = ⟨e, sent⟩ := rfl
@[simp] theorem State.abort_tmo (e : ErrCode) (sent : Bool) : (s.abort e sent).tmo = s.tmo := rfl
@[simp] theorem State.abort_chReady (e : ErrCode) (sent : Bool) : (s.abort e sent).chReady = s.chReady := rfl
@[simp] theorem State.abort_wire (e : ErrCode) (sent : Bool) : (s.abort e sent).wire = s.wire := rfl
@[simp] theorem State.abort_history (e : ErrCode) (sent : Bool) : (s.abort e sent).history = s.history := rfl
@[simp] theorem State.abort_responses (e : ErrCode) (sent : Bool) : (s.abort e sent).responses = s.responses ++ [⟨⟨e, sent⟩, []⟩] := rfl
@[simp] theorem State.abort_unitResults (e : ErrCode) (sent : Bool) : (s.abort e sent).unitResults = s.unitResults := rfl
@[simp] theorem State.abort_port (e : ErrCode) (sent : Bool) : (s.abort e sent).port = s.port := rfl
@[simp] theorem State.abort_host (e : ErrCode) (sent : Bool) : (s.abort e sent).host = s.host := rfl
@[simp] theorem State.abort_sendAnswers (e : ErrCode) (sent : Bool) : (s.abort e sent).sendAnswers = s.sendAnswers := rfl
@[simp] theorem State.abort_recvAnswers (e : ErrCode) (sent : Bool) : (s.abort e sent).recvAnswers = s.recvAnswers := rfl
@[simp] theorem State.abort_draws (e : ErrCode) (sent : Bool) : (s.abort e sent).draws = s.draws := rfl

/-! ### State.loadFrame -/

@[simp] theorem State.loadFrame_op (f : Bytes) (c : Byte) : (s.loadFrame f c).op = s.op := rfl
@[simp] theorem State.loadFrame_a0 (f : Bytes) (c : Byte) : (s.loadFrame f c).a0 = s.a0 := rfl
@[simp] theorem State.loadFrame_a1 (f : Bytes) (c : Byte) : (s.loadFrame f c).a1 = s.a1 := rfl
@[simp] theorem State.loadFrame_a2 (f : Bytes) (c : Byte) : (s.loadFrame f c).a2 = s.a2 := rfl
@[simp] theorem State.loadFrame_fl (f : Bytes) (c : Byte) : (s.loadFrame f c).fl = s.fl := rfl
@[simp] theorem State.loadFrame_phase (f : Bytes) (c : Byte) : (s.loadFrame f c).phase = .send := rfl
@[simp] theorem State.loadFrame_txbuf (f : Bytes) (c : Byte) : (s.loadFrame f c).txbuf = Memory.writeBytes s.txbuf 0 f := rfl
@[simp] theorem State.loadFrame_txlen (f : Bytes) (c : Byte) : (s.loadFrame f c).txlen = f.length := rfl
@[simp] theorem State.loadFrame_acc (f : Bytes) (c : Byte) : (s.loadFrame f c).acc = c := rfl
@[simp] theorem State.loadFrame_accCleared (f : Bytes) (c : Byte) : (s.loadFrame f c).accCleared = true := rfl
@[simp] theorem State.loadFrame_rxbuf (f : Bytes) (c : Byte) : (s.loadFrame f c).rxbuf = s.rxbuf := rfl
@[simp] theorem State.loadFrame_rxlen (f : Bytes) (c : Byte) : (s.loadFrame f c).rxlen = s.rxlen := rfl
@[simp] theorem State.loadFrame_status (f : Bytes) (c : Byte) : (s.loadFrame f c).status = s.status := rfl
@[simp] theorem State.loadFrame_tmo (f : Bytes) (c : Byte) : (s.loadFrame f c).tmo = s.tmo := rfl
@[simp] theorem State.loadFrame_chReady (f : Bytes) (c : Byte) : (s.loadFrame f c).chReady = s.chReady := rfl
@[simp] theorem State.loadFrame_wire (f : Bytes) (c : Byte) : (s.loadFrame f c).wire = s.wire := rfl
@[simp] theorem State.loadFrame_history (f : Bytes) (c : Byte) : (s.loadFrame f c).history = s.history := rfl
@[simp] theorem State.loadFrame_responses (f : Bytes) (c : Byte) : (s.loadFrame f c).responses = s.responses := rfl
@[simp] theorem State.loadFrame_unitResults (f : Bytes) (c : Byte) : (s.loadFrame f c).unitResults = s.unitResults := rfl
@[simp] theorem State.loadFrame_port (f : Bytes) (c : Byte) : (s.loadFrame f c).port = s.port := rfl
@[simp] theorem State.loadFrame_host (f : Bytes) (c : Byte) : (s.loadFrame f c).host = s.host := rfl
@[simp] theorem State.loadFrame_sendAnswers (f : Bytes) (c : Byte) : (s.loadFrame f c).sendAnswers = s.sendAnswers := rfl
@[simp] theorem State.loadFrame_recvAnswers (f : Bytes) (c : Byte) : (s.loadFrame f c).recvAnswers = s.recvAnswers := rfl
@[simp] theorem State.loadFrame_draws (f : Bytes) (c : Byte) : (s.loadFrame f c).draws = s.draws := rfl

/-! ### State.storeReply -/

@[simp] theorem State.storeReply_op (b : Bytes) : (s.storeReply b).op = s.op := rfl
@[simp] theorem State.storeReply_a0 (b : Bytes) : (s.storeReply b).a0 = s.a0 := rfl
@[simp] theorem State.storeReply_a1 (b : Bytes) : (s.storeReply b).a1 = s.a1 := rfl
@[simp] theorem State.storeReply_a2 (b : Bytes) : (s.storeReply b).a2 = s.a2 := rfl
@[simp] theorem State.storeReply_fl (b : Bytes) : (s.storeReply b).fl = s.fl := rfl
@[simp] theorem State.storeReply_phase (b : Bytes) : (s.storeReply b).phase = s.phase := rfl
@[simp] theorem State.storeReply_txbuf (b : Bytes) : (s.storeReply b).txbuf = s.txbuf := rfl
@[simp] theorem State.storeReply_txlen (b : Bytes) : (s.storeReply b).txlen = s.txlen := rfl
@[simp] theorem State.storeReply_acc (b : Bytes) : (s.storeReply b).acc = s.acc := rfl
@[simp] theorem State.storeReply_accCleared (b : Bytes) : (s.storeReply b).accCleared = s.accCleared := rfl
@[simp] theorem State.storeReply_rxbuf (b : Bytes) : (s.storeReply b).rxbuf = Memory.writeBytes s.rxbuf 0 b := rfl
@[simp] theorem State.storeReply_rxlen (b : Bytes) : (s.storeReply b).rxlen = b.length := rfl
@[simp] theorem State.storeReply_status (b : Bytes) : (s.storeReply b).status = s.status := rfl
@[simp] theorem State.storeReply_tmo (b : Bytes) : (s.storeReply b).tmo = s.tmo := rfl
@[simp] theorem State.storeReply_chReady (b : Bytes) : (s.storeReply b).chReady = s.chReady := rfl
@[simp] theorem State.storeReply_wire (b : Bytes) : (s.storeReply b).wire = s.wire := rfl
@[simp] theorem State.storeReply_history (b : Bytes) : (s.storeReply b).history = s.history := rfl
@[simp] theorem State.storeReply_responses (b : Bytes) : (s.storeReply b).responses = s.responses := rfl
@[simp] theorem State.storeReply_unitResults (b : Bytes) : (s.storeReply b).unitResults = s.unitResults := rfl
@[simp] theorem State.storeReply_port (b : Bytes) : (s.storeReply b).port = s.port := rfl
@[simp] theorem State.storeReply_host (b : Bytes) : (s.storeReply b).host = s.host := rfl
@[simp] theorem State.storeReply_sendAnswers (b : Bytes) : (s.storeReply b).sendAnswers = s.sendAnswers := rfl
@[simp] theorem State.storeReply_recvAnswers (b : Bytes) : (s.storeReply b).recvAnswers = s.recvAnswers := rfl
@[simp] theorem State.storeReply_draws (b : Bytes) : (s.storeReply b).draws = s.draws := rfl

/-! ### State.complete -/

@[simp] theorem State.complete_op (b : Bytes) : (s.complete b).op = s.op := rfl
@[simp] theorem State.complete_a0 (b : Bytes) : (s.complete b).a0 = s.a0 := rfl
@[simp] theorem State.complete_a1 (b : Bytes) : (s.complete b).a1 = s.a1 := rfl
@[simp] theorem State.complete_a2 (b : Bytes) : (s.complete b).a2 = s.a2 := rfl
@[simp] theorem State.complete_fl (b : Bytes) : (s.complete b).fl = s.fl := rfl
@[simp] theorem State.complete_phase (b : Bytes) : (s.complete b).phase = .idle := rfl
@[simp] theorem State.complete_txbuf (b : Bytes) : (s.complete b).txbuf = [] := rfl
@[simp] theorem State.complete_txlen (b : Bytes) : (s.complete b).txlen = 0 := rfl
@[simp] theorem State.complete_acc (b : Bytes) : (s.complete b).acc = s.acc := rfl
@[simp] theorem State.complete_accCleared (b : Bytes) : (s.complete b).accCleared = s.accCleared := rfl
@[simp] theorem State.complete_rxbuf (b : Bytes) : (s.complete b).rxbuf = Memory.writeBytes s.rxbuf 0 b := rfl
@[simp] theorem State.complete_rxlen (b : Bytes) : (s.complete b).rxlen = b.length := rfl
@[simp] theorem State.complete_status (b : Bytes) : (s.complete b).status = ⟨.ok, true⟩ := rfl
@[simp] theorem State.complete_tmo (b : Bytes) : (s.complete b).tmo = s.tmo := rfl
@[simp] theorem State.complete_chReady (b : Bytes) : (s.complete b).chReady = s.chReady := rfl
@[simp] theorem State.complete_wire (b : Bytes) : (s.complete b).wire = s.wire := rfl
@[simp] theorem State.complete_history (b : Bytes) : (s.complete b).history = s.history := rfl
@[simp] theorem State.complete_responses (b : Bytes) : (s.complete b).responses = s.responses ++ [⟨⟨.ok, true⟩, b⟩] := rfl
@[simp] theorem State.complete_unitResults (b : Bytes) : (s.complete b).unitResults = s.unitResults := rfl
@[simp] theorem State.complete_port (b : Bytes) : (s.complete b).port = s.port := rfl
@[simp] theorem State.complete_host (b : Bytes) : (s.complete b).host = s.host := rfl
@[simp] theorem State.complete_sendAnswers (b : Bytes) : (s.complete b).sendAnswers = s.sendAnswers := rfl
@[simp] theorem State.complete_recvAnswers (b : Bytes) : (s.complete b).recvAnswers = s.recvAnswers := rfl
@[simp] theorem State.complete_draws (b : Bytes) : (s.complete b).draws = s.draws := rfl

/-! ### State.present -/

@[simp] theorem State.present_op (r : UnitResult) : (s.present r).op = s.op := rfl
@[simp] theorem State.present_a0 (r : UnitResult) : (s.present r).a0 = s.a0 := rfl
@[simp] theorem State.present_a1 (r : UnitResult) : (s.present r).a1 = s.a1 := rfl
@[simp] theorem State.present_a2 (r : UnitResult) : (s.present r).a2 = s.a2 := rfl
@[simp] theorem State.present_fl (r : UnitResult) : (s.present r).fl = s.fl := rfl
@[simp] theorem State.present_phase (r : UnitResult) : (s.present r).phase = s.phase := rfl
@[simp] theorem State.present_txbuf (r : UnitResult) : (s.present r).txbuf = s.txbuf := rfl
@[simp] theorem State.present_txlen (r : UnitResult) : (s.present r).txlen = s.txlen := rfl
@[simp] theorem State.present_acc (r : UnitResult) : (s.present r).acc = s.acc := rfl
@[simp] theorem State.present_accCleared (r : UnitResult) : (s.present r).accCleared = s.accCleared := rfl
@[simp] theorem State.present_rxbuf (r : UnitResult) : (s.present r).rxbuf = s.rxbuf := rfl
@[simp] theorem State.present_rxlen (r : UnitResult) : (s.present r).rxlen = s.rxlen := rfl
@[simp] theorem State.present_status (r : UnitResult) : (s.present r).status = s.status := rfl
@[simp] theorem State.present_tmo (r : UnitResult) : (s.present r).tmo = s.tmo := rfl
@[simp] theorem State.present_chReady (r : UnitResult) : (s.present r).chReady = s.chReady := rfl
@[simp] theorem State.present_wire (r : UnitResult) : (s.present r).wire = s.wire := rfl
@[simp] theorem State.present_history (r : UnitResult) : (s.present r).history = s.history := rfl
@[simp] theorem State.present_responses (r : UnitResult) : (s.present r).responses = s.responses := rfl
@[simp] theorem State.present_unitResults (r : UnitResult) : (s.present r).unitResults = s.unitResults ++ [r] := rfl
@[simp] theorem State.present_port (r : UnitResult) : (s.present r).port = s.port := rfl
@[simp] theorem State.present_host (r : UnitResult) : (s.present r).host = s.host := rfl
@[simp] theorem State.present_sendAnswers (r : UnitResult) : (s.present r).sendAnswers = s.sendAnswers := rfl
@[simp] theorem State.present_recvAnswers (r : UnitResult) : (s.present r).recvAnswers = s.recvAnswers := rfl
@[simp] theorem State.present_draws (r : UnitResult) : (s.present r).draws = s.draws := rfl

/-! ### State.loadAcc -/

@[simp] theorem State.loadAcc_op (c : Byte) : (s.loadAcc c).op = s.op := rfl
@[simp] theorem State.loadAcc_a0 (c : Byte) : (s.loadAcc c).a0 = s.a0 := rfl
@[simp] theorem State.loadAcc_a1 (c : Byte) : (s.loadAcc c).a1 = s.a1 := rfl
@[simp] theorem State.loadAcc_a2 (c : Byte) : (s.loadAcc c).a2 = s.a2 := rfl
@[simp] theorem State.loadAcc_fl (c : Byte) : (s.loadAcc c).fl = s.fl := rfl
@[simp] theorem State.loadAcc_phase (c : Byte) : (s.loadAcc c).phase = s.phase := rfl
@[simp] theorem State.loadAcc_txbuf (c : Byte) : (s.loadAcc c).txbuf = s.txbuf := rfl
@[simp] theorem State.loadAcc_txlen (c : Byte) : (s.loadAcc c).txlen = s.txlen := rfl
@[simp] theorem State.loadAcc_acc (c : Byte) : (s.loadAcc c).acc = c := rfl
@[simp] theorem State.loadAcc_accCleared (c : Byte) : (s.loadAcc c).accCleared = true := rfl
@[simp] theorem State.loadAcc_rxbuf (c : Byte) : (s.loadAcc c).rxbuf = s.rxbuf := rfl
@[simp] theorem State.loadAcc_rxlen (c : Byte) : (s.loadAcc c).rxlen = s.rxlen := rfl
@[simp] theorem State.loadAcc_status (c : Byte) : (s.loadAcc c).status = s.status := rfl
@[simp] theorem State.loadAcc_tmo (c : Byte) : (s.loadAcc c).tmo = s.tmo := rfl
@[simp] theorem State.loadAcc_chReady (c : Byte) : (s.loadAcc c).chReady = s.chReady := rfl
@[simp] theorem State.loadAcc_wire (c : Byte) : (s.loadAcc c).wire = s.wire := rfl
@[simp] theorem State.loadAcc_history (c : Byte) : (s.loadAcc c).history = s.history := rfl
@[simp] theorem State.loadAcc_responses (c : Byte) : (s.loadAcc c).responses = s.responses := rfl
@[simp] theorem State.loadAcc_unitResults (c : Byte) : (s.loadAcc c).unitResults = s.unitResults := rfl
@[simp] theorem State.loadAcc_port (c : Byte) : (s.loadAcc c).port = s.port := rfl
@[simp] theorem State.loadAcc_host (c : Byte) : (s.loadAcc c).host = s.host := rfl
@[simp] theorem State.loadAcc_sendAnswers (c : Byte) : (s.loadAcc c).sendAnswers = s.sendAnswers := rfl
@[simp] theorem State.loadAcc_recvAnswers (c : Byte) : (s.loadAcc c).recvAnswers = s.recvAnswers := rfl
@[simp] theorem State.loadAcc_draws (c : Byte) : (s.loadAcc c).draws = s.draws := rfl

/-! ### State.foldAcc -/

@[simp] theorem State.foldAcc_op (b : Byte) : (s.foldAcc b).op = s.op := rfl
@[simp] theorem State.foldAcc_a0 (b : Byte) : (s.foldAcc b).a0 = s.a0 := rfl
@[simp] theorem State.foldAcc_a1 (b : Byte) : (s.foldAcc b).a1 = s.a1 := rfl
@[simp] theorem State.foldAcc_a2 (b : Byte) : (s.foldAcc b).a2 = s.a2 := rfl
@[simp] theorem State.foldAcc_fl (b : Byte) : (s.foldAcc b).fl = s.fl := rfl
@[simp] theorem State.foldAcc_phase (b : Byte) : (s.foldAcc b).phase = s.phase := rfl
@[simp] theorem State.foldAcc_txbuf (b : Byte) : (s.foldAcc b).txbuf = s.txbuf := rfl
@[simp] theorem State.foldAcc_txlen (b : Byte) : (s.foldAcc b).txlen = s.txlen := rfl
@[simp] theorem State.foldAcc_acc (b : Byte) : (s.foldAcc b).acc = lrcAcc s.acc b := rfl
@[simp] theorem State.foldAcc_accCleared (b : Byte) : (s.foldAcc b).accCleared = s.accCleared := rfl
@[simp] theorem State.foldAcc_rxbuf (b : Byte) : (s.foldAcc b).rxbuf = s.rxbuf := rfl
@[simp] theorem State.foldAcc_rxlen (b : Byte) : (s.foldAcc b).rxlen = s.rxlen := rfl
@[simp] theorem State.foldAcc_status (b : Byte) : (s.foldAcc b).status = s.status := rfl
@[simp] theorem State.foldAcc_tmo (b : Byte) : (s.foldAcc b).tmo = s.tmo := rfl
@[simp] theorem State.foldAcc_chReady (b : Byte) : (s.foldAcc b).chReady = s.chReady := rfl
@[simp] theorem State.foldAcc_wire (b : Byte) : (s.foldAcc b).wire = s.wire := rfl
@[simp] theorem State.foldAcc_history (b : Byte) : (s.foldAcc b).history = s.history := rfl
@[simp] theorem State.foldAcc_responses (b : Byte) : (s.foldAcc b).responses = s.responses := rfl
@[simp] theorem State.foldAcc_unitResults (b : Byte) : (s.foldAcc b).unitResults = s.unitResults := rfl
@[simp] theorem State.foldAcc_port (b : Byte) : (s.foldAcc b).port = s.port := rfl
@[simp] theorem State.foldAcc_host (b : Byte) : (s.foldAcc b).host = s.host := rfl
@[simp] theorem State.foldAcc_sendAnswers (b : Byte) : (s.foldAcc b).sendAnswers = s.sendAnswers := rfl
@[simp] theorem State.foldAcc_recvAnswers (b : Byte) : (s.foldAcc b).recvAnswers = s.recvAnswers := rfl
@[simp] theorem State.foldAcc_draws (b : Byte) : (s.foldAcc b).draws = s.draws := rfl

/-! ### State.withRequest -/

@[simp] theorem State.withRequest_op (r : Option Request) : (s.withRequest r).op = s.op := rfl
@[simp] theorem State.withRequest_a0 (r : Option Request) : (s.withRequest r).a0 = s.a0 := rfl
@[simp] theorem State.withRequest_a1 (r : Option Request) : (s.withRequest r).a1 = s.a1 := rfl
@[simp] theorem State.withRequest_a2 (r : Option Request) : (s.withRequest r).a2 = s.a2 := rfl
@[simp] theorem State.withRequest_fl (r : Option Request) : (s.withRequest r).fl = s.fl := rfl
@[simp] theorem State.withRequest_phase (r : Option Request) : (s.withRequest r).phase = .idle := rfl
@[simp] theorem State.withRequest_txbuf (r : Option Request) : (s.withRequest r).txbuf = s.txbuf := rfl
@[simp] theorem State.withRequest_txlen (r : Option Request) : (s.withRequest r).txlen = s.txlen := rfl
@[simp] theorem State.withRequest_acc (r : Option Request) : (s.withRequest r).acc = s.acc := rfl
@[simp] theorem State.withRequest_accCleared (r : Option Request) : (s.withRequest r).accCleared = s.accCleared := rfl
@[simp] theorem State.withRequest_rxbuf (r : Option Request) : (s.withRequest r).rxbuf = s.rxbuf := rfl
@[simp] theorem State.withRequest_rxlen (r : Option Request) : (s.withRequest r).rxlen = s.rxlen := rfl
@[simp] theorem State.withRequest_status (r : Option Request) : (s.withRequest r).status = s.status := rfl
@[simp] theorem State.withRequest_tmo (r : Option Request) : (s.withRequest r).tmo = s.tmo := rfl
@[simp] theorem State.withRequest_chReady (r : Option Request) : (s.withRequest r).chReady = s.chReady := rfl
@[simp] theorem State.withRequest_wire (r : Option Request) : (s.withRequest r).wire = s.wire := rfl
@[simp] theorem State.withRequest_history (r : Option Request) : (s.withRequest r).history = s.history := rfl
@[simp] theorem State.withRequest_responses (r : Option Request) : (s.withRequest r).responses = s.responses := rfl
@[simp] theorem State.withRequest_unitResults (r : Option Request) : (s.withRequest r).unitResults = s.unitResults := rfl
@[simp] theorem State.withRequest_port (r : Option Request) : (s.withRequest r).port = r := rfl
@[simp] theorem State.withRequest_host (r : Option Request) : (s.withRequest r).host = [] := rfl
@[simp] theorem State.withRequest_sendAnswers (r : Option Request) : (s.withRequest r).sendAnswers = s.sendAnswers := rfl
@[simp] theorem State.withRequest_recvAnswers (r : Option Request) : (s.withRequest r).recvAnswers = s.recvAnswers := rfl
@[simp] theorem State.withRequest_draws (r : Option Request) : (s.withRequest r).draws = s.draws := rfl

/-! ### State.assertReset -/

@[simp] theorem State.assertReset_op : s.assertReset.op = State.reset.op := rfl
@[simp] theorem State.assertReset_a0 : s.assertReset.a0 = State.reset.a0 := rfl
@[simp] theorem State.assertReset_a1 : s.assertReset.a1 = State.reset.a1 := rfl
@[simp] theorem State.assertReset_a2 : s.assertReset.a2 = State.reset.a2 := rfl
@[simp] theorem State.assertReset_fl : s.assertReset.fl = State.reset.fl := rfl
@[simp] theorem State.assertReset_phase : s.assertReset.phase = State.reset.phase := rfl
@[simp] theorem State.assertReset_txbuf : s.assertReset.txbuf = State.reset.txbuf := rfl
@[simp] theorem State.assertReset_txlen : s.assertReset.txlen = State.reset.txlen := rfl
@[simp] theorem State.assertReset_acc : s.assertReset.acc = State.reset.acc := rfl
@[simp] theorem State.assertReset_accCleared : s.assertReset.accCleared = State.reset.accCleared := rfl
@[simp] theorem State.assertReset_rxbuf : s.assertReset.rxbuf = State.reset.rxbuf := rfl
@[simp] theorem State.assertReset_rxlen : s.assertReset.rxlen = State.reset.rxlen := rfl
@[simp] theorem State.assertReset_status : s.assertReset.status = State.reset.status := rfl
@[simp] theorem State.assertReset_tmo : s.assertReset.tmo = State.reset.tmo := rfl
@[simp] theorem State.assertReset_chReady : s.assertReset.chReady = s.chReady := rfl
@[simp] theorem State.assertReset_wire : s.assertReset.wire = s.wire := rfl
@[simp] theorem State.assertReset_history : s.assertReset.history = State.reset.history := rfl
@[simp] theorem State.assertReset_responses : s.assertReset.responses = s.responses := rfl
@[simp] theorem State.assertReset_unitResults : s.assertReset.unitResults = s.unitResults := rfl
@[simp] theorem State.assertReset_port : s.assertReset.port = s.port := rfl
@[simp] theorem State.assertReset_host : s.assertReset.host = s.host := rfl
@[simp] theorem State.assertReset_sendAnswers : s.assertReset.sendAnswers = s.sendAnswers := rfl
@[simp] theorem State.assertReset_recvAnswers : s.assertReset.recvAnswers = if s.phase = .wait then s.recvAnswers.tail else s.recvAnswers := rfl
@[simp] theorem State.assertReset_draws : s.assertReset.draws = s.draws := rfl

/-! ### The operand registers as a request -/

@[simp] theorem State.record_operands (e : Event) : (s.record e).operands = s.operands := rfl
@[simp] theorem State.chSend_operands (f r : Bytes) (a : SendResult) : (s.chSend f r a).operands = s.operands := rfl
@[simp] theorem State.awaitReply_operands : s.awaitReply.operands = s.operands := rfl
@[simp] theorem State.recvTaken_operands : s.recvTaken.operands = s.operands := rfl
@[simp] theorem State.accept_operands (r : Request) : (s.accept r).operands = r := rfl
@[simp] theorem State.respond_operands (st : Status) (bytes : Bytes) : (s.respond st bytes).operands = s.operands := rfl
@[simp] theorem State.takeError_operands (e : ErrCode) (sent : Bool) : (s.takeError e sent).operands = s.operands := rfl
@[simp] theorem State.discardFrame_operands : s.discardFrame.operands = s.operands := rfl
@[simp] theorem State.abort_operands (e : ErrCode) (sent : Bool) : (s.abort e sent).operands = s.operands := rfl
@[simp] theorem State.loadFrame_operands (f : Bytes) (c : Byte) : (s.loadFrame f c).operands = s.operands := rfl
@[simp] theorem State.storeReply_operands (b : Bytes) : (s.storeReply b).operands = s.operands := rfl
@[simp] theorem State.complete_operands (b : Bytes) : (s.complete b).operands = s.operands := rfl
@[simp] theorem State.present_operands (r : UnitResult) : (s.present r).operands = s.operands := rfl
@[simp] theorem State.loadAcc_operands (c : Byte) : (s.loadAcc c).operands = s.operands := rfl
@[simp] theorem State.foldAcc_operands (b : Byte) : (s.foldAcc b).operands = s.operands := rfl
@[simp] theorem State.withRequest_operands (r : Option Request) : (s.withRequest r).operands = s.operands := rfl

end Sys2Proof.Machine
end

