-- ==== Sys2Proof/Laws/Ops.lean ====
section
/-! SUPPORT. What each shared operation of the controller can do, said once. -/

namespace Sys2Proof.Machine

/-- Everything steps (1) and (2) can do. -/
theorem beginTransaction_cases {op : Byte} {p : Except ErrCode Bytes} {s t : State}
    (h : beginTransaction op p s = .next t) :
    (∃ e, p = .error e ∧ t = s.takeError e false) ∨
      ∃ q, p = .ok q ∧ t = s.loadFrame (assemble op q) (lrc (op :: q)) := by
  cases p with
  | error e => simp only [beginTransaction, Host.Outcome.next.injEq] at h; exact .inl ⟨e, rfl, h.symm⟩
  | ok q => simp only [beginTransaction, Host.Outcome.next.injEq] at h; exact .inr ⟨q, rfl, h.symm⟩

/-- Everything the send step can do. -/
theorem sendStep_cases {s t : State} (h : sendStep s = .next t) :
    (s.chReady = false ∧ t = s.abort .connectFailed false) ∨
      (∃ f later, s.chReady = true ∧ s.txFrame = some f ∧ s.sendAnswers = .ok :: later ∧
        t = (s.chSend f f .ok).awaitReply) ∨
      ∃ f n later, s.chReady = true ∧ s.txFrame = some f ∧ s.sendAnswers = .failed n :: later ∧
        t = (s.chSend f (f.take n) .sendFailed).abort .sendFailed true := by
  unfold sendStep at h
  split at h
  · next hr =>
    split at h
    · cases h
    · cases h
    · next f later hf ha => exact .inr (.inl ⟨f, later, hr, hf, ha, by simpa using h.symm⟩)
    · next f n later hf ha => exact .inr (.inr ⟨f, n, later, hr, hf, ha, by simpa using h.symm⟩)
  · next hr => exact .inl ⟨by simpa using hr, by simpa using h.symm⟩

/-- Everything the end of a receive can do. -/
theorem State.takeReply_cases (s : State) (b : Bool) (a : RecvAnswer) :
    (∃ bytes, a = .ok bytes ∧ s.takeReply b a = s.complete bytes) ∨
      (∃ e, (e = .receiveFailed ∨ e = .timeout) ∧ s.takeReply b a = s.abort e true) := by
  cases a with
  | ok bytes =>
    simp only [State.takeReply]
    split
    · exact .inr ⟨_, .inl rfl, rfl⟩
    · exact .inl ⟨_, rfl, rfl⟩
  | receiveFailed => exact .inr ⟨_, .inl rfl, rfl⟩
  | timeout => exact .inr ⟨_, .inr rfl, rfl⟩

/-- With the spec's decision D26, the end of a receive is the reply's or the error's. -/
theorem State.takeReply_default (s : State) (a : RecvAnswer) :
    s.takeReply Config.EMPTY_REPLY_IS_ERROR a =
      match a with
      | .ok bytes => s.complete bytes
      | .receiveFailed => s.abort .receiveFailed true
      | .timeout => s.abort .timeout true := by
  cases a <;> simp [State.takeReply, Config.EMPTY_REPLY_IS_ERROR]

/-- A receive returns at most `RX_MAX` bytes. -/
theorem State.length_recvAnswer {s : State} {bytes : Bytes} (h : s.recvAnswer = .ok bytes) :
    bytes.length ≤ Config.RX_MAX := by
  unfold State.recvAnswer cutReply at h
  split at h
  · cases h; exact List.length_take_le _ _
  · cases h
  · cases h

/-- The transaction in each phase. -/
@[simp] theorem transact_idle {op : Byte} {p : Except ErrCode Bytes} {s : State} (h : s.phase = .idle) :
    transact op p s = beginTransaction op p s := by simp [transact, h]

@[simp] theorem transact_send {op : Byte} {p : Except ErrCode Bytes} {s : State} (h : s.phase = .send) :
    transact op p s = sendStep s := by simp [transact, h]

@[simp] theorem transact_wait {op : Byte} {p : Except ErrCode Bytes} {s : State} (h : s.phase = .wait) :
    transact op p s = recvStep s := by simp [transact, h]

/-- A frame just loaded is what the send step reads. -/
theorem State.txFrame_loadFrame (s : State) {f : Bytes} (c : Byte) (h : f.length ≤ Config.TX_MAX) :
    (s.loadFrame f c).txFrame = some f := by
  simp [State.txFrame, h, Memory.readBytes_writeBytes]

end Sys2Proof.Machine
end

