-- ==== Sys2Proof/Laws/Commands.lean ====
section
/-! SUPPORT. The seven command meanings as one: the command byte and the payload of an instruction, the transaction it runs, and the
link between the request that selects it and the frame R140 builds for that request. -/

namespace Sys2Proof

open Machine

/-- The command byte (R72); a unit operation has none. -/
def Instr.opByte : Instr → Option Byte
  | .getStatusJogSpeed0 _ => some Config.CMD_JOG
  | .getStatusJogSpeedN _ => some Config.CMD_JOG
  | .moveToCoordinate _ _ => some Config.CMD_COORDINATE
  | .moveToAbsoluteZero => some Config.CMD_ABSOLUTE_ZERO
  | .moveToHome => some Config.CMD_HOME
  | .retrievePreset _ => some Config.CMD_RETRIEVE
  | .savePreset _ => some Config.CMD_SAVE
  | .computeLRC _ => none
  | .encodeSignedShort _ => none
  | .decodeSignedShort _ _ => none

/-- The payload, or the error of the arguments (R141 to R146). -/
def Instr.framePayload : Instr → Except ErrCode Bytes
  | .getStatusJogSpeed0 fl => .ok (jogPayload0 jogMasks fl)
  | .getStatusJogSpeedN fl => .ok (jogPayloadN jogMasks fl)
  | .moveToCoordinate pan tilt => coordinatePayload pan tilt
  | .moveToAbsoluteZero => .ok []
  | .moveToHome => .ok []
  | .retrievePreset index => presetPayload index
  | .savePreset index => presetPayload index
  | .computeLRC _ => .error .invalidInput
  | .encodeSignedShort _ => .error .invalidInput
  | .decodeSignedShort _ _ => .error .invalidInput

namespace Machine

/-- With the spec's decision D8 the unused jog arguments are not validated. -/
@[simp] theorem jogChecked_default (a b c : Arg) (p : Bytes) : jogChecked Config.JOG_VALIDATES_ARGS a b c p = .ok p := by
  simp [jogChecked, Config.JOG_VALIDATES_ARGS]

/-- A command's meaning is the transaction with its command byte and payload. -/
theorem exec_command {i : Instr} {op : Byte} (h : i.opByte = some op) (s : State) :
    exec i s = transact op i.framePayload s := by
  cases i <;> simp only [Instr.opByte, Option.some.injEq, reduceCtorEq] at h <;> subst h <;>
    simp [exec, Instr.framePayload, execGetStatusJogSpeed0, execGetStatusJogSpeedN, execMoveToCoordinate,
      execMoveToAbsoluteZero, execMoveToHome, execRetrievePreset, execSavePreset]

/-- A command is an instruction with a command byte. -/
theorem opByte_of_isCommand {i : Instr} (h : i.isCommand = true) : ∃ op, i.opByte = some op := by
  cases i <;> simp_all [Instr.isCommand, Instr.opByte]

/-- The request that selects an instruction carries its command byte and gives R140 its payload. -/
theorem payloadOf_of_decodeRequest {r : Request} {i : Instr} (h : decodeRequest r = some i) :
    i.opByte = some r.op ∧ payloadOf r = i.framePayload := by
  unfold decodeRequest at h
  unfold payloadOf
  repeat' split at h
  all_goals first
    | (cases h; simp_all [Instr.opByte, Instr.framePayload])
    | cases h

/-- The frame of the request that selects an instruction. -/
theorem buildFrame_of_decodeRequest {r : Request} {i : Instr} (h : decodeRequest r = some i) :
    buildFrame r = i.framePayload.map (assemble r.op) := by
  unfold buildFrame
  rw [(payloadOf_of_decodeRequest h).2]
  cases i.framePayload <;> rfl

/-- A request selects only commands. -/
theorem isCommand_of_decodeRequest {r : Request} {i : Instr} (h : decodeRequest r = some i) : i.isCommand = true := by
  unfold decodeRequest at h
  repeat' split at h
  all_goals first
    | (cases h; rfl)
    | cases h

/-- The length of a frame is that of its payload and four or five bytes more. -/
theorem length_assemble (op : Byte) (p : Bytes) : (assemble op p).length = 4 + (padOf op).length + p.length := by
  simp [assemble]
  omega

/-- The payload of a command is at most five bytes long. -/
theorem length_framePayload {i : Instr} {p : Bytes} (h : i.framePayload = .ok p) : p.length ≤ 5 := by
  cases i with
  | getStatusJogSpeed0 fl => cases h; simp [jogPayload0]
  | getStatusJogSpeedN fl => cases h; simp [jogPayloadN]
  | moveToCoordinate pan tilt =>
    simp only [Instr.framePayload, coordinatePayload] at h
    split at h <;> cases h
    simp
  | moveToAbsoluteZero => cases h; simp
  | moveToHome => cases h; simp
  | retrievePreset index =>
    simp only [Instr.framePayload, presetPayload] at h
    split at h <;> cases h
    simp
  | savePreset index =>
    simp only [Instr.framePayload, presetPayload] at h
    split at h <;> cases h
    simp
  | computeLRC _ => cases h
  | encodeSignedShort _ => cases h
  | decodeSignedShort _ _ => cases h

/-- Every frame of a command fits `TXBUF`. -/
theorem length_assemble_framePayload {i : Instr} {op : Byte} {p : Bytes} (h : i.framePayload = .ok p) :
    (assemble op p).length ≤ Config.TX_MAX := by
  have hp := length_framePayload h
  have hpad : (padOf op).length ≤ 1 := by unfold padOf; split <;> simp
  rw [length_assemble]
  simp only [Config.TX_MAX]
  omega

end Machine

end Sys2Proof
end

