-- ==== Sys2Proof/Laws/Flags.lean ====
section
/-! SUPPORT. The choice of jog masks covers exactly the assignments D6 admits, so a statement over every choice is a statement over
every assignment. -/

namespace Sys2Proof.Machine

/-- Where position `q` stands among the positions not in `used`. -/
def rankAmongFree (used : List Nat) (q : Nat) : Nat := ((List.range q).filter (fun i => !used.contains i)).length

/-- Every assignment of three different bit positions has its choice. -/
theorem jogMasks_every_assignment :
    ∀ p q r : Fin 8, p ≠ q → p ≠ r → q ≠ r → ∃ (hq : rankAmongFree [p.val] q.val < 7)
      (hr : rankAmongFree [p.val, q.val] r.val < 6),
      JogMasks.ofChoice (p, ⟨_, hq⟩, ⟨_, hr⟩) = ⟨bitMask p.val, bitMask q.val, bitMask r.val⟩ := by
  decide

/-- With no flag set the byte is 0x00 whatever the masks are (R77). -/
@[simp] theorem flagsByte_none (m : JogMasks) : flagsByte m ⟨false, false, false⟩ = 0#8 := by simp [flagsByte]

@[simp] theorem readFlags_zero (m : JogMasks) : readFlags m 0#8 = some ⟨false, false, false⟩ := by simp [readFlags]

end Sys2Proof.Machine
end

