-- ==== Sys2Proof/Laws/Units.lean ====
section
/-! SUPPORT. What the unit operations can do, said once. -/

namespace Sys2Proof.Machine

/-- The fold from any accumulator (R100). -/
theorem lrc_concat (s : Bytes) (b : Byte) : lrc (s ++ [b]) = lrc s ^^^ b := by simp [lrc, lrcAcc]

/-- Everything a use of the LRC unit can do. -/
theorem execComputeLRC_cases {x : LrcInput} {s t : State} (h : execComputeLRC x s = .next t) :
    (∃ bs, x = .span (some bs) ∧ t = s.present (.byte (lrc bs))) ∨
    (x = .span none ∧ t = s.present (.failed .invalidInput)) ∨
    (∃ en b, x = .drive true en b ∧ t = s.loadAcc 0#8) ∨
    (∃ b, x = .drive false true b ∧ t = s.foldAcc b) ∨
    (∃ b, x = .drive false false b ∧ t = s) ∨
    (x = .read true ∧ t = s.present (.byte s.acc)) ∨
    (x = .read false ∧ t = s.present (.failed .invalidInput)) := by
  cases x with
  | span bs =>
    cases bs with
    | none =>
      simp only [execComputeLRC, lrcSpan, computeLRC, Host.Outcome.next.injEq] at h
      exact .inr (.inl ⟨rfl, h.symm⟩)
    | some bs =>
      simp only [execComputeLRC, lrcSpan, computeLRC, Host.Outcome.next.injEq] at h
      exact .inl ⟨bs, rfl, h.symm⟩
  | drive clear en b =>
    cases clear with
    | true =>
      simp only [execComputeLRC, lrcDrive, if_true, Host.Outcome.next.injEq] at h
      exact .inr (.inr (.inl ⟨en, b, rfl, h.symm⟩))
    | false =>
      cases en with
      | true =>
        simp only [execComputeLRC, lrcDrive, Bool.false_eq_true, if_false, if_true, Host.Outcome.next.injEq] at h
        exact .inr (.inr (.inr (.inl ⟨b, rfl, h.symm⟩)))
      | false =>
        simp only [execComputeLRC, lrcDrive, Bool.false_eq_true, if_false, Host.Outcome.next.injEq] at h
        exact .inr (.inr (.inr (.inr (.inl ⟨b, rfl, h.symm⟩))))
  | read present =>
    cases present with
    | true =>
      simp only [execComputeLRC, lrcRead, if_true, Host.Outcome.next.injEq] at h
      exact .inr (.inr (.inr (.inr (.inr (.inl ⟨rfl, h.symm⟩)))))
    | false =>
      simp only [execComputeLRC, lrcRead, Bool.false_eq_true, if_false, Host.Outcome.next.injEq] at h
      exact .inr (.inr (.inr (.inr (.inr (.inr ⟨rfl, h.symm⟩)))))

/-- The encoder presents one result. -/
theorem execEncodeSignedShort_cases {v : Arg} {s t : State} (h : execEncodeSignedShort v s = .next t) :
    ∃ r, t = s.present r := by
  simp only [execEncodeSignedShort] at h
  split at h
  · exact ⟨_, by simpa using h.symm⟩
  · exact ⟨_, by simpa using h.symm⟩

end Sys2Proof.Machine
end

