-- ==== Sys2Proof/Laws/Step.lean ====
section
/-! SUPPORT. What one step of the machine can be, said once. -/

namespace Sys2Proof.Machine

/-- What the block's own step can come to. -/
theorem blockMove_cases (s : State) :
    (s.phase = .idle ∧ s.port = none ∧ blockMove s = .answer (.next s)) ∨
    (∃ r i, s.phase = .idle ∧ s.port = some r ∧ decodeRequest r = some i ∧ blockMove s = .run i (s.accept r)) ∨
    (∃ r, s.phase = .idle ∧ s.port = some r ∧ decodeRequest r = none ∧
      blockMove s = .answer (.next ((s.accept r).takeError .illegalCommand false))) ∨
    (s.phase = .send ∧ blockMove s = .answer (sendStep s)) ∨
    (s.phase = .wait ∧ blockMove s = .answer (recvStep s)) := by
  cases hp : s.phase with
  | idle =>
    cases hr : s.port with
    | none => exact .inl ⟨rfl, rfl, by simp [blockMove, hp, hr]⟩
    | some r =>
      cases hd : decodeRequest r with
      | none => exact .inr (.inr (.inl ⟨r, rfl, rfl, hd, by simp [blockMove, hp, hr, hd]⟩))
      | some i => exact .inr (.inl ⟨r, i, rfl, rfl, hd, by simp [blockMove, hp, hr, hd]⟩)
  | send => exact .inr (.inr (.inr (.inl ⟨rfl, by simp [blockMove, hp]⟩)))
  | wait => exact .inr (.inr (.inr (.inr ⟨rfl, by simp [blockMove, hp]⟩)))

/-- The outcome of a move. -/
def runMove : Move → Result
  | .run i s => exec i s
  | .answer r => r

/-- With no act of the host to come, a step is the block's. -/
theorem step_of_host_nil {s : State} (h : s.host = []) : step s = runMove (blockMove s) := by
  simp only [step, nextMove, h]
  cases blockMove s <;> rfl

/-- What a step can be: the block's, from this state or with `pass` taken off the list; or an act of the host. -/
theorem step_cases (s : State) :
    step s = runMove (blockMove s) ∨
    (∃ later, s.host = .pass :: later ∧ step s = runMove (blockMove { s with host := later })) ∨
    (∃ r later, s.host = .present r :: later ∧ s.port = none ∧
      step s = .next { s with host := later, port := some r }) ∨
    (∃ u later, s.host = .useUnit u :: later ∧ step s = exec (decodeUnit u) { s with host := later }) ∨
    (∃ v later, s.host = .writeTmo v :: later ∧ step s = .next { s with host := later, tmo := v }) ∨
    (∃ b later, s.host = .connect b :: later ∧ step s = .next { s with host := later, chReady := s.chReady || b }) ∨
    (∃ later, s.host = .close :: later ∧ step s = .next { s with host := later, chReady := false }) ∨
    (∃ later, s.host = .rst :: later ∧ step s = .next { s with host := later }.assertReset) := by
  cases hh : s.host with
  | nil => exact .inl (step_of_host_nil hh)
  | cons a later =>
    cases a with
    | pass =>
      refine .inr (.inl ⟨later, rfl, ?_⟩)
      simp only [step, nextMove, hh, hostWaits, hostMove, Bool.false_eq_true, if_false]
      cases blockMove { s with host := later } <;> rfl
    | present r =>
      cases hp : s.port with
      | none => exact .inr (.inr (.inl ⟨r, later, rfl, rfl, by simp [step, nextMove, hh, hostWaits, hostMove, hp]⟩))
      | some q =>
        refine .inl ?_
        simp only [step, nextMove, hh, hostWaits, hp, Option.isSome_some, if_true]
        cases blockMove s <;> rfl
    | useUnit u =>
      exact .inr (.inr (.inr (.inl ⟨u, later, rfl, by simp [step, nextMove, hh, hostWaits, hostMove]⟩)))
    | writeTmo v =>
      exact .inr (.inr (.inr (.inr (.inl ⟨v, later, rfl, by simp [step, nextMove, hh, hostWaits, hostMove]⟩))))
    | connect b =>
      exact .inr (.inr (.inr (.inr (.inr (.inl ⟨b, later, rfl, by simp [step, nextMove, hh, hostWaits, hostMove]⟩)))))
    | close =>
      exact .inr (.inr (.inr (.inr (.inr (.inr (.inl
        ⟨later, rfl, by simp [step, nextMove, hh, hostWaits, hostMove]⟩))))))
    | rst =>
      exact .inr (.inr (.inr (.inr (.inr (.inr (.inr
        ⟨later, rfl, by simp [step, nextMove, hh, hostWaits, hostMove]⟩))))))

end Sys2Proof.Machine
end

