-- ==== Sys2Proof/Laws/PerInstr.lean ====
section
/-! SUPPORT. Statements about every instruction as syntax, one lemma per constructor. `FrameLength`: the frame of an instruction has the
length R73 gives its command; the unit operations have no frame (R87). -/

namespace Sys2Proof.Laws

open Machine

/-- The frame length of R73. -/
def FrameLength.expected : Instr → Nat
  | .getStatusJogSpeed0 _ => 10
  | .getStatusJogSpeedN _ => 8
  | .moveToCoordinate _ _ => 8
  | .moveToAbsoluteZero => 4
  | .moveToHome => 5
  | .retrievePreset _ => 6
  | .savePreset _ => 5
  | .computeLRC _ => 0
  | .encodeSignedShort _ => 0
  | .decodeSignedShort _ _ => 0

/-- An instruction is encoded exactly when it is a well-formed command, and then in as many bytes as R73 says. -/
def FrameLength.Statement (i : Instr) : Prop :=
  ((encode i).isSome = (i.isCommand && i.wellFormed)) ∧ ∀ f, encode i = some f → f.length = FrameLength.expected i

theorem FrameLength.getStatusJogSpeed0 (fl : JogFlags) : FrameLength.Statement (.getStatusJogSpeed0 fl) := by
  simp [FrameLength.Statement, FrameLength.expected, encode, Instr.wellFormed, Instr.isCommand]

theorem FrameLength.getStatusJogSpeedN (fl : JogFlags) : FrameLength.Statement (.getStatusJogSpeedN fl) := by
  simp [FrameLength.Statement, FrameLength.expected, encode, Instr.wellFormed, Instr.isCommand]

theorem FrameLength.moveToCoordinate (pan tilt : Arg) : FrameLength.Statement (.moveToCoordinate pan tilt) := by
  unfold FrameLength.Statement encode
  cases h : (Instr.moveToCoordinate pan tilt).wellFormed <;> simp [FrameLength.expected, Instr.isCommand]

theorem FrameLength.moveToAbsoluteZero : FrameLength.Statement .moveToAbsoluteZero := by
  simp [FrameLength.Statement, FrameLength.expected, encode, Instr.wellFormed, Instr.isCommand]

theorem FrameLength.moveToHome : FrameLength.Statement .moveToHome := by
  simp [FrameLength.Statement, FrameLength.expected, encode, Instr.wellFormed, Instr.isCommand]

theorem FrameLength.retrievePreset (index : Arg) : FrameLength.Statement (.retrievePreset index) := by
  unfold FrameLength.Statement encode
  cases h : (Instr.retrievePreset index).wellFormed <;> simp [FrameLength.expected, Instr.isCommand]

theorem FrameLength.savePreset (index : Arg) : FrameLength.Statement (.savePreset index) := by
  unfold FrameLength.Statement encode
  cases h : (Instr.savePreset index).wellFormed <;> simp [FrameLength.expected, Instr.isCommand]

theorem FrameLength.computeLRC (input : LrcInput) : FrameLength.Statement (.computeLRC input) := by
  simp [FrameLength.Statement, FrameLength.expected, encode, Instr.wellFormed, Instr.isCommand]

theorem FrameLength.encodeSignedShort (v : Arg) : FrameLength.Statement (.encodeSignedShort v) := by
  simp [FrameLength.Statement, FrameLength.expected, encode, Instr.wellFormed, Instr.isCommand]

theorem FrameLength.decodeSignedShort (lo hi : Byte) : FrameLength.Statement (.decodeSignedShort lo hi) := by
  simp [FrameLength.Statement, FrameLength.expected, encode, Instr.wellFormed, Instr.isCommand]

end Sys2Proof.Laws
end

