-- ==== Sys2Proof/Tests/Slice0.lean ====
section
/-! SUPPORT. Tests on fixed values: the checks of WellFormed, words written out from the encodings of spec/30_encoding.md, one step per
instruction against the vectors of spec/95_test_vectors.md, and for each statement with hypotheses, a case that meets them. -/

namespace Sys2Proof.Tests

open Machine

/-! ### Helpers -/

def noFlags : JogFlags := ⟨false, false, false⟩

def request (op : Byte) (a0 a1 a2 : Arg) : Request := ⟨op, a0, a1, a2, noFlags⟩

def homeFrame : Bytes := [0x02#8, 0x00#8, 0x36#8, 0x36#8, 0x03#8]

/-- Idle, connected, a channel that takes one frame and answers `[0x06]`. -/
def ready : State := { State.reset with chReady := true, sendAnswers := [.ok], recvAnswers := [.ok [0x06#8]] }

/-- The same with a request on the port. -/
def onPort (r : Request) : State := { ready with port := some r }

/-- The frame of `moveToHome` is in `TXBUF` and not yet sent. -/
def sending : State :=
  { ready with
    op := 0x36#8
    phase := .send
    txbuf := [(0, 0x02#8), (1, 0x00#8), (2, 0x36#8), (3, 0x36#8), (4, 0x03#8)]
    txlen := 5
    acc := 0x36#8
    accCleared := true }

/-- It has been sent, and the reply is awaited. -/
def waiting : State := { sending with phase := .wait, sendAnswers := [], history := [.send homeFrame .ok] }

def next? : Result → Option State
  | .next t => some t
  | .fault _ => none
  | .refused _ => none

/-- The frame a command loads. -/
def loaded (i : Instr) (s : State) : Option Bytes := (next? (exec i s)).bind State.txFrame

/-- The phase and `STATUS` after a command's step. -/
def ending (i : Instr) (s : State) : Option (Phase × Status) := (next? (exec i s)).map (fun t => (t.phase, t.status))

/-- The last result a unit presents. -/
def presented (i : Instr) (s : State) : Option UnitResult := (next? (exec i s)).bind (fun t => t.unitResults.getLast?)

/-! ### WellFormed: an ill-formed term for each check (R120, R147; the nearest accepted values are those of V2 and V3) -/

theorem test_wf_refuses_pan_above : (Instr.moveToCoordinate 32768 0).wellFormed = false := by decide
theorem test_wf_refuses_pan_below : (Instr.moveToCoordinate (-32769) 0).wellFormed = false := by decide
theorem test_wf_refuses_tilt_above : (Instr.moveToCoordinate 0 32768).wellFormed = false := by decide
theorem test_wf_refuses_tilt_below : (Instr.moveToCoordinate 0 (-32769)).wellFormed = false := by decide
theorem test_wf_refuses_retrieve_32 : (Instr.retrievePreset 32).wellFormed = false := by decide
theorem test_wf_refuses_retrieve_minus_1 : (Instr.retrievePreset (-1)).wellFormed = false := by decide
theorem test_wf_refuses_save_256 : (Instr.savePreset 256).wellFormed = false := by decide
theorem test_wf_refuses_save_minus_32 : (Instr.savePreset (-32)).wellFormed = false := by decide
theorem test_wf_accepts_bounds :
    (Instr.moveToCoordinate 32767 (-32768)).wellFormed = true ∧ (Instr.retrievePreset 31).wellFormed = true ∧
      (Instr.savePreset 0).wellFormed = true := by decide

/-! ### Decoding: every constructor, words written from R74 and V3 -/

theorem test_decode_jog_speed0 :
    decodeFrame [0x02#8, 0x00#8, 0x31#8, 0x00#8, 0x00#8, 0x00#8, 0x00#8, 0x00#8, 0x31#8, 0x03#8] =
      .ok (.getStatusJogSpeed0 noFlags) := rfl
theorem test_decode_jog_speedN :
    decodeFrame [0x02#8, 0x00#8, 0x31#8, 0x00#8, 0x00#8, 0x00#8, 0x31#8, 0x03#8] = .ok (.getStatusJogSpeedN noFlags) := rfl
theorem test_decode_coordinate :
    decodeFrame [0x02#8, 0x33#8, 0xFE#8, 0xFF#8, 0xFF#8, 0x7F#8, 0xB2#8, 0x03#8] = .ok (.moveToCoordinate (-2) 32767) := rfl
theorem test_decode_absolute_zero : decodeFrame [0x02#8, 0x35#8, 0x35#8, 0x03#8] = .ok .moveToAbsoluteZero := rfl
theorem test_decode_home : decodeFrame homeFrame = .ok .moveToHome := rfl
theorem test_decode_retrieve : decodeFrame [0x02#8, 0x00#8, 0x40#8, 0x1F#8, 0x5F#8, 0x03#8] = .ok (.retrievePreset 31) := rfl
theorem test_decode_save : decodeFrame [0x02#8, 0x42#8, 0x1E#8, 0x5C#8, 0x03#8] = .ok (.savePreset 30) := rfl
theorem test_decode_refuses_missing_end :
    decodeFrame [0x02#8, 0x33#8, 0x84#8, 0x03#8, 0x0F#8, 0x27#8, 0x9C#8] = .error .wrongLength := rfl
/-- The masks of the first illustrative table of V3: 0x01, 0x02, 0x04. -/
theorem test_decode_flags :
    readFlags (JogMasks.ofChoice (0, 0, 0)) 0x05#8 = some ⟨true, false, true⟩ ∧
      readFlags (JogMasks.ofChoice (0, 0, 0)) 0x08#8 = none := by decide
/-- The rows of spec/opcode_table.json, as its numbers. -/
theorem test_decode_table_numbers :
    decodeTableWord 32 0x02353503 = some .moveToAbsoluteZero ∧ decodeTableWord 40 0x0200363603 = some .moveToHome ∧
      decodeTableWord 48 0x020040004003 = some (.retrievePreset 0) ∧ decodeTableWord 40 0x0242054703 = some (.savePreset 5) ∧
      decodeTableWord 64 0x02338403_0F279C03 = some (.moveToCoordinate 900 9999) ∧
      decodeTableWord 80 0x02003100_00000000_3103 = some (.getStatusJogSpeed0 noFlags) ∧
      decodeTableWord 64 0x02003100_00003103 = some (.getStatusJogSpeedN noFlags) := by decide
/-- The `match` word of the MoveToCoordinate row has 0 in its checksum field, and is no frame (R84). -/
theorem test_decode_table_checksum : decodeTableWord 64 0x02330000_00000003 = none := by decide
theorem test_decode_requests :
    decodeRequest (request 0x31#8 5 6 0) = some (.getStatusJogSpeed0 noFlags) ∧
      decodeRequest (request 0x31#8 5 6 (-1)) = some (.getStatusJogSpeedN noFlags) ∧
      decodeRequest (request 0x33#8 900 9999 7) = some (.moveToCoordinate 900 9999) ∧
      decodeRequest (request 0x35#8 1 2 3) = some .moveToAbsoluteZero ∧ decodeRequest (request 0x36#8 1 2 3) = some .moveToHome ∧
      decodeRequest (request 0x40#8 5 2 3) = some (.retrievePreset 5) ∧
      decodeRequest (request 0x42#8 (-1) 2 3) = some (.savePreset (-1)) ∧ decodeRequest (request 0x32#8 0 0 0) = none := by decide
theorem test_decode_unit_ports :
    decodeUnit (.lrc (.read true)) = .computeLRC (.read true) ∧ decodeUnit (.encode (-2)) = .encodeSignedShort (-2) ∧
      decodeUnit (.decode 0xFE#8 0xFF#8) = .decodeSignedShort 0xFE#8 0xFF#8 := by decide

/-! ### One step of each instruction (V1 to V4) -/

theorem test_jog_speed0_loads : loaded (.getStatusJogSpeed0 noFlags) { ready with a0 := 40000, a1 := -40000 } =
    some [0x02#8, 0x00#8, 0x31#8, 0x00#8, 0x00#8, 0x00#8, 0x00#8, 0x00#8, 0x31#8, 0x03#8] := by decide
theorem test_jog_speed0_flags : assemble 0x31#8 (jogPayload0 (JogMasks.ofChoice (0, 0, 0)) ⟨true, true, false⟩) =
    [0x02#8, 0x00#8, 0x31#8, 0x03#8, 0x00#8, 0x00#8, 0x00#8, 0x00#8, 0x32#8, 0x03#8] := by decide
theorem test_jog_speedN_loads : loaded (.getStatusJogSpeedN noFlags) { ready with a2 := 5 } =
    some [0x02#8, 0x00#8, 0x31#8, 0x00#8, 0x00#8, 0x00#8, 0x31#8, 0x03#8] := by decide
theorem test_jog_speedN_timeout : ending (.getStatusJogSpeedN noFlags) { waiting with recvAnswers := [.timeout] } =
    some (.idle, ⟨.timeout, true⟩) := by decide
theorem test_coordinate_loads : loaded (.moveToCoordinate (-900) 450) ready =
    some [0x02#8, 0x33#8, 0x7C#8, 0xFC#8, 0xC2#8, 0x01#8, 0x70#8, 0x03#8] := by decide
theorem test_coordinate_out_of_range : ending (.moveToCoordinate 0 (-32769)) State.reset =
    some (.idle, ⟨.outOfRange, false⟩) := by decide
theorem test_absolute_zero_loads : loaded .moveToAbsoluteZero ready = some [0x02#8, 0x35#8, 0x35#8, 0x03#8] := by decide
theorem test_absolute_zero_not_connected : ending .moveToAbsoluteZero { sending with chReady := false } =
    some (.idle, ⟨.connectFailed, false⟩) := by decide
theorem test_home_sends : (next? (exec .moveToHome sending)).map (fun t => (t.wire, t.phase)) =
    some ([0x02#8, 0x00#8, 0x36#8, 0x36#8, 0x03#8], .wait) := by decide
/-- A NAK is still a success (R176). -/
theorem test_home_returns_nak : (next? (exec .moveToHome { waiting with recvAnswers := [.ok [0x15#8]] })).map (·.responses) =
    some [⟨⟨.ok, true⟩, [0x15#8]⟩] := by
  simp [exec, execMoveToHome, waiting, sending, recvStep, State.takeReply, Config.EMPTY_REPLY_IS_ERROR, State.recvAnswer, cutReply,
    Config.RX_MAX, next?, transact, ready, State.reset, State.complete, State.respond]
theorem test_retrieve_loads : loaded (.retrievePreset 5) ready = some [0x02#8, 0x00#8, 0x40#8, 0x05#8, 0x45#8, 0x03#8] := by decide
theorem test_retrieve_32 : ending (.retrievePreset 0x20) ready = some (.idle, ⟨.presetOutOfRange, false⟩) := by decide
theorem test_save_loads : loaded (.savePreset 31) ready = some [0x02#8, 0x42#8, 0x1F#8, 0x5D#8, 0x03#8] := by decide
theorem test_save_minus_1 : ending (.savePreset (-1)) ready = some (.idle, ⟨.presetOutOfRange, false⟩) := by decide
theorem test_lrc_span : presented (.computeLRC (.span (some [0x33#8, 0x84#8, 0x03#8, 0x0F#8, 0x27#8]))) ready =
    some (.byte 0x9C#8) := by decide
theorem test_lrc_drive : (next? (exec (.computeLRC (.drive false true 0x84#8)) { sending with acc := 0x33#8 })).map (·.acc) =
    some 0xB7#8 := by decide
theorem test_encode : presented (.encodeSignedShort (-2)) ready = some (.pair 0xFE#8 0xFF#8) := rfl
theorem test_encode_out_of_range : presented (.encodeSignedShort 32768) ready = some (.failed .outOfRange) := rfl
theorem test_decode_negative : presented (.decodeSignedShort 0xFE#8 0xFF#8) ready = some (.value (-2)) := by decide +kernel
theorem test_decode_low_byte_has_no_sign : presented (.decodeSignedShort 0x80#8 0x00#8) ready = some (.value 128) := by decide +kernel

/-! ### A case that meets the hypotheses of each statement -/

theorem witness_EmptySpanHasChecksumZero : buildFrame (request 0x36#8 0 0 0) = .ok homeFrame := rfl

theorem witness_LrcIsTheXorFold : ([0x31#8, 0x00#8] : Bytes).Perm [0x00#8, 0x31#8] ∧ 0 < 8 ∧ 7 < 8 := by decide

/-- An accumulate and a read after reset, with nothing cleared, are marked and run; after a clear they are not marked. -/
theorem witness_StreamingLrcMatchesWhole :
    State.reset.accCleared = false ∧ unclearedUse State.reset (.drive false true 0x33#8) = true ∧
      (∃ t, exec (.computeLRC (.drive false true 0x33#8)) State.reset = .next t) ∧
      ∃ t, exec (.computeLRC (.drive true false 0x33#8)) State.reset = .next t ∧ unclearedUse t (.read true) = false :=
  ⟨rfl, rfl, ⟨_, rfl⟩, ⟨_, rfl, rfl⟩⟩

theorem witness_LrcUnitCompletes :
    unclearedUse State.reset (.read true) = true ∧ ∃ t, exec (.computeLRC (.read true)) State.reset = .next t := ⟨rfl, ⟨_, rfl⟩⟩

theorem witness_EncodeFailsExactlyOutOfRange :
    encodeSignedShort 32768 = .error .outOfRange ∧ encodeSignedShort (-32769) = .error .outOfRange ∧ 15 ≤ 15 ∧ 31 < 32 :=
  ⟨rfl, rfl, by decide, by decide⟩

theorem witness_SignedShortRoundTrips : (-32768 : Int) ≤ -32768 ∧ (-32768 : Int) ≤ 32767 ∧ (32767 : Int) ≤ 32767 := by decide

theorem witness_EncoderPresentsTwosComplement :
    (-32768 ≤ (-32768 : Arg).toInt ∧ (-32768 : Arg).toInt ≤ 32767) ∧ (-32768 ≤ (32767 : Arg).toInt ∧ (32767 : Arg).toInt ≤ 32767) ∧
      (32768 : Arg).toInt > 32767 ∧ (-32769 : Arg).toInt < -32768 := by decide

theorem witness_UnitsLeaveTransactionsAlone :
    ∃ t, exec (decodeUnit (.encode 770)) waiting = .next t ∧ t.unitResults = [.pair 0x02#8 0x03#8] := ⟨_, rfl, rfl⟩

theorem witness_FlagsByteTellsFlagsApart : flagsByte jogMasks ⟨true, false, true⟩ = flagsByte jogMasks ⟨true, false, true⟩ := rfl

theorem witness_BuiltFrameIsTheLayout :
    decodeRequest (request 0x42#8 31 0 0) = some (.savePreset 31) ∧ (Instr.savePreset 31).wellFormed = true := by decide

/-- Each clause at its boundary; the nearest accepted requests are in `witness_FrameLengthsByCommand`. -/
theorem witness_FramerFailsExactlyAsListed :
    buildFrame (request 0x32#8 0 0 0) = .error .illegalCommand ∧ buildFrame (request 0x33#8 32768 0 0) = .error .outOfRange ∧
      buildFrame (request 0x33#8 0 (-32769) 0) = .error .outOfRange ∧ buildFrame (request 0x40#8 32 0 0) = .error .presetOutOfRange ∧
      buildFrame (request 0x42#8 (-1) 0 0) = .error .presetOutOfRange := ⟨rfl, rfl, rfl, rfl, rfl⟩

theorem witness_FrameLengthsByCommand :
    (∃ f, buildFrame (request 0x31#8 0 0 0) = .ok f) ∧ (∃ f, buildFrame (request 0x31#8 0 0 (-1)) = .ok f) ∧
      (∃ f, buildFrame (request 0x33#8 32767 (-32768) 0) = .ok f) ∧ (∃ f, buildFrame (request 0x35#8 0 0 0) = .ok f) ∧
      (∃ f, buildFrame (request 0x36#8 0 0 0) = .ok f) ∧ (∃ f, buildFrame (request 0x40#8 31 0 0) = .ok f) ∧
      ∃ f, buildFrame (request 0x42#8 0 0 0) = .ok f :=
  ⟨⟨_, rfl⟩, ⟨_, rfl⟩, ⟨_, rfl⟩, ⟨_, rfl⟩, ⟨_, rfl⟩, ⟨_, rfl⟩, ⟨_, rfl⟩⟩

/-- The four kinds of frame its clauses tell apart. -/
theorem witness_EveryFrameIsDelimitedAndSummed :
    (∃ f, buildFrame (request 0x33#8 770 515 0) = .ok f) ∧ (∃ f, buildFrame (request 0x40#8 31 0 0) = .ok f) ∧
      (∃ f, buildFrame (request 0x35#8 0 0 0) = .ok f) ∧ ∃ f, buildFrame (request 0x31#8 0 0 0) = .ok f :=
  ⟨⟨_, rfl⟩, ⟨_, rfl⟩, ⟨_, rfl⟩, ⟨_, rfl⟩⟩

/-- Different requests that meet all its hypotheses. -/
theorem witness_IgnoredOperandsNeverMatter :
    request 0x31#8 1 2 5 ≠ request 0x31#8 3 4 (-5) ∧ ((5 : Arg) = 0 ↔ (-5 : Arg) = 0) ∧
      request 0x33#8 1 2 5 ≠ request 0x33#8 1 2 6 ∧ request 0x40#8 1 2 5 ≠ request 0x40#8 1 3 5 := by decide

theorem witness_DecodeOfEncodeIsTheCommand :
    Instr.moveToHome.isCommand = true ∧ Instr.moveToHome.wellFormed = true ∧ encode .moveToHome = some homeFrame := by decide

theorem witness_RecognisedFrameIsTheEncoding : decodeFrame homeFrame = .ok .moveToHome := rfl

theorem witness_StepRunsThePresentedInstruction :
    ((onPort (request 0x36#8 0 0 0)).host = [] ∧ (onPort (request 0x36#8 0 0 0)).phase = .idle ∧
      decodeRequest (request 0x36#8 0 0 0) = some .moveToHome) ∧
      { ready with host := [.useUnit (.encode 1)] }.host = .useUnit (.encode 1) :: [] ∧
      (sending.host = [] ∧ sending.phase ≠ .idle) ∧ waiting.host = [] ∧ waiting.phase ≠ .idle := by decide

theorem witness_WordOnPortRunsItsCommand : decodeTableWord 40 0x0200363603 = some .moveToHome := by decide

theorem witness_WellFormedCommandLoadsItsFrame :
    ready.phase = .idle ∧ (Instr.getStatusJogSpeed0 noFlags).wellFormed = true ∧
      (Instr.getStatusJogSpeedN ⟨true, true, true⟩).wellFormed = true ∧ (Instr.moveToCoordinate (-32768) 32767).wellFormed = true ∧
      Instr.moveToAbsoluteZero.wellFormed = true ∧ Instr.moveToHome.wellFormed = true ∧
      (Instr.retrievePreset 31).wellFormed = true ∧ (Instr.savePreset 0).wellFormed = true := by decide

theorem witness_IllFormedCommandEndsWithItsError :
    ready.phase = .idle ∧ (inSignedShort (32768 : Arg).toInt && inSignedShort (0 : Arg).toInt) = false ∧
      inPreset (32 : Arg).toInt = false ∧ inPreset (-1 : Arg).toInt = false := by decide

theorem witness_ServingBuildsTheFrameOrEnds :
    (onPort (request 0x36#8 0 0 0)).host = [] ∧ (onPort (request 0x36#8 0 0 0)).phase = .idle ∧
      (onPort (request 0x36#8 0 0 0)).port = some (request 0x36#8 0 0 0) ∧ buildFrame (request 0x36#8 0 0 0) = .ok homeFrame ∧
      buildFrame (request 0x40#8 32 0 0) = .error .presetOutOfRange := ⟨rfl, rfl, rfl, rfl, rfl⟩

/-- Each answer: connected or not, the frame taken, and a send that fails after no byte or after all of them. -/
theorem witness_SendStepByAnswer :
    { sending with chReady := false }.phase = .send ∧ sending.chReady = true ∧ sending.txFrame = some homeFrame ∧
      sending.sendAnswers = .ok :: [] ∧ { sending with sendAnswers := [.failed 0] }.sendAnswers = .failed 0 :: [] ∧
      { sending with sendAnswers := [.failed 5] }.txFrame = some homeFrame := by decide

theorem witness_UnansweredSendIsStuck :
    { sending with sendAnswers := [] }.phase = .send ∧ { sending with sendAnswers := [] }.chReady = true ∧
      { sending with sendAnswers := [] }.txFrame = some homeFrame ∧ Instr.moveToHome.isCommand = true := by decide

/-- A reply of no byte, of one byte, and the two failures. -/
theorem witness_ReceiveStepByAnswer :
    waiting.phase = .wait ∧ waiting.recvAnswers = .ok [0x06#8] :: [] ∧ ([0x06#8] : Bytes).length ≤ Config.RX_MAX ∧
      ([] : Bytes).length ≤ Config.RX_MAX ∧ { waiting with recvAnswers := [.receiveFailed] }.recvAnswers = .receiveFailed :: [] ∧
      { waiting with recvAnswers := [.timeout] }.recvAnswers = .timeout :: [] :=
  ⟨rfl, rfl, Nat.le_add_left 1 _, Nat.zero_le _, rfl, rfl⟩

theorem witness_ReceiveStepLeavesTheOtherBytes :
    waiting.phase = .wait ∧ (∃ t, exec .moveToHome { waiting with recvAnswers := [.ok [0x06#8]] } = .next t ∧ t.status.err = .ok) ∧
      ∃ t, exec .moveToHome { waiting with recvAnswers := [.timeout] } = .next t ∧ t.status.err ≠ .ok :=
  ⟨rfl, ⟨_, rfl, rfl⟩, ⟨_, rfl, by decide⟩⟩

theorem witness_WaitAlwaysEnds : { waiting with recvAnswers := [] }.phase = .wait ∧ Instr.moveToHome.isCommand = true := ⟨rfl, rfl⟩

theorem witness_TransactionSendsFrameAndReturnsReply :
    encode .moveToHome = some homeFrame ∧ ready.phase = .idle ∧ ready.chReady = true ∧ ready.sendAnswers = .ok :: [] ∧
      ready.recvAnswers = .ok [0x06#8] :: [] ∧ ([0x06#8] : Bytes).length ≤ Config.RX_MAX :=
  ⟨rfl, rfl, rfl, rfl, rfl, Nat.le_add_left 1 _⟩

theorem witness_BusyBlockAcceptsNothing :
    (∃ t, step { waiting with port := some (request 0x35#8 0 0 0) } = .next t) ∧
      ∃ t, step { sending with port := some (request 0x35#8 0 0 0), host := [.present (request 0x36#8 0 0 0)] } = .next t :=
  ⟨⟨_, rfl⟩, ⟨_, rfl⟩⟩

/-- A step of the block in each phase; it serves the statements about one such step. -/
theorem witness_BlockNeverWritesHostRegisters :
    (∃ t, step (onPort (request 0x36#8 0 0 0)) = .next t) ∧ (∃ t, step sending = .next t) ∧ ∃ t, step waiting = .next t :=
  ⟨⟨_, rfl⟩, ⟨_, rfl⟩, ⟨_, rfl⟩⟩

theorem witness_HistoryGrowsByTheStepOfItsPhase :
    (∃ t, step (onPort (request 0x36#8 0 0 0)) = .next t) ∧ (∃ t, step { sending with chReady := false } = .next t) ∧
      (∃ t, step sending = .next t) ∧ ∃ t, step waiting = .next t := ⟨⟨_, rfl⟩, ⟨_, rfl⟩, ⟨_, rfl⟩, ⟨_, rfl⟩⟩

theorem witness_BuffersChangeOnlyByTheirRules :
    (∃ t, step (onPort (request 0x36#8 0 0 0)) = .next t ∧ t.txlen ≤ 5 ∧ t.phase = .send) ∧
      (∃ t, step (onPort (request 0x32#8 0 0 0)) = .next t ∧ t.phase = .idle) ∧
      (∃ t, step sending = .next t ∧ t.phase = .wait) ∧ ∃ t, step { waiting with recvAnswers := [.timeout] } = .next t ∧ t.phase = .idle :=
  ⟨⟨_, rfl, by decide, rfl⟩, ⟨_, rfl, rfl⟩, ⟨_, rfl, rfl⟩, ⟨_, rfl, rfl⟩⟩

theorem witness_WireCarriesFramesOrPrefixes :
    (∃ t, step sending = .next t ∧ t.wire = homeFrame) ∧
      ∃ t, step { sending with sendAnswers := [.failed 2] } = .next t ∧ t.wire = [0x02#8, 0x00#8] := ⟨⟨_, rfl, rfl⟩, ⟨_, rfl, rfl⟩⟩

theorem witness_ReplyContentSteersNothing : waiting.phase = .wait ∧ (Instr.savePreset 31).isCommand = true := by decide

theorem witness_AcceptedRequestIsAnsweredInThreeSteps :
    (onPort (request 0x36#8 0 0 0)).host = [] ∧ (onPort (request 0x36#8 0 0 0)).phase = .idle ∧
      (onPort (request 0x36#8 0 0 0)).port = some (request 0x36#8 0 0 0) ∧ (onPort (request 0x36#8 0 0 0)).sendAnswers ≠ [] := by decide

/-- An ending of each error a step can write. -/
theorem witness_ErrorEntryChangesThisOnly :
    (∃ t, step (onPort (request 0x32#8 0 0 0)) = .next t ∧ t.responses = [] ++ [⟨⟨.illegalCommand, false⟩, []⟩]) ∧
      (∃ t, step (onPort (request 0x33#8 32768 0 0)) = .next t ∧ t.responses = [] ++ [⟨⟨.outOfRange, false⟩, []⟩]) ∧
      (∃ t, step (onPort (request 0x42#8 (-1) 0 0)) = .next t ∧ t.responses = [] ++ [⟨⟨.presetOutOfRange, false⟩, []⟩]) ∧
      (∃ t, step { sending with chReady := false } = .next t ∧ t.responses = [] ++ [⟨⟨.connectFailed, false⟩, []⟩]) ∧
      (∃ t, step { sending with sendAnswers := [.failed 1] } = .next t ∧ t.responses = [] ++ [⟨⟨.sendFailed, true⟩, []⟩]) ∧
      (∃ t, step { waiting with recvAnswers := [.receiveFailed] } = .next t ∧ t.responses = [] ++ [⟨⟨.receiveFailed, true⟩, []⟩]) ∧
      ∃ t, step { waiting with recvAnswers := [.timeout] } = .next t ∧ t.responses = [] ++ [⟨⟨.timeout, true⟩, []⟩] :=
  ⟨⟨_, rfl, rfl⟩, ⟨_, rfl, rfl⟩, ⟨_, rfl, rfl⟩, ⟨_, rfl, rfl⟩, ⟨_, rfl, rfl⟩, ⟨_, rfl, rfl⟩, ⟨_, rfl, rfl⟩⟩

theorem witness_UnlistedCommandIsIllegal :
    (onPort (request 0x00#8 0 0 0)).host = [] ∧ (onPort (request 0x00#8 0 0 0)).phase = .idle ∧
      (onPort (request 0x00#8 0 0 0)).port = some (request 0x00#8 0 0 0) := ⟨rfl, rfl, rfl⟩

theorem witness_ErrorClassesAreTellable : ResponseOk ⟨⟨.outOfRange, false⟩, []⟩ ∧ isInputError .outOfRange = true := by
  simp [ResponseOk, sentColumn, isInputError]

theorem witness_ResetAbandonsTheTransaction :
    { waiting with host := [.rst] }.host = .rst :: [] ∧ { waiting with host := [.rst] }.phase = .wait ∧
      { sending with host := [.rst] }.phase ≠ .wait := by decide

theorem witness_HostActsChangeTheirOwnState :
    ({ ready with host := [.writeTmo 0] }.host = .writeTmo 0 :: [] ∧ { ready with host := [.connect true] }.host = .connect true :: [] ∧
      { ready with host := [.close] }.host = .close :: [] ∧ { ready with host := [.present (request 0x36#8 0 0 0)] }.port = none) ∧
      (∃ t, step { { waiting with host := [.pass] } with host := [] } = .next t) ∧
      step { { sending with sendAnswers := [], host := [.pass] } with host := [] } = .fault .sendUnanswered :=
  ⟨⟨rfl, rfl, rfl, rfl⟩, ⟨_, rfl⟩, rfl⟩

/-- A busy state has the state invariant, and its step a next state. -/
theorem witness_StepKeepsStateInvariant : StateInv waiting ∧ ∃ t, step waiting = .next t := by
  refine ⟨?_, ⟨_, rfl⟩⟩
  exact {
    txWf := by decide
    rxWf := List.Pairwise.nil
    txWithin := by simp [bufferWithin, waiting, sending]
    rxWithin := by simp [bufferWithin, waiting, sending, ready, State.reset]
    idleEmpty := by simp [waiting]
    busyFrame := fun _ => ⟨homeFrame, rfl, rfl, rfl⟩
    rxLen := Nat.zero_le _
    rxValid := ⟨[], rfl⟩ }

theorem witness_StepKeepsHistoryGrouped : HistoryInv waiting ∧ ∃ t, step waiting = .next t := by
  refine ⟨⟨by simp [waiting], fun _ => ⟨homeFrame, rfl, rfl⟩, ?_⟩, ⟨_, rfl⟩⟩
  intro f a h
  simp only [waiting, List.mem_singleton, Event.send.injEq] at h
  exact h.1 ▸ ⟨request 0x36#8 0 0 0, rfl⟩

theorem witness_StepKeepsResponsesGood :
    ResponsesInv { waiting with responses := [⟨⟨.timeout, true⟩, []⟩] } ∧
      ∃ t, step { waiting with responses := [⟨⟨.timeout, true⟩, []⟩] } = .next t := by
  refine ⟨?_, ⟨_, rfl⟩⟩
  simp [ResponsesInv, ResponseOk, sentColumn]

end Sys2Proof.Tests
end

section
/-! SUPPORT and the statements about the encodings (spec/30_encoding.md): what the jog masks are, what a frame is made of, and O11, O14
and O15. -/

namespace Sys2Proof.Machine

/-! ### The jog masks (R77) -/

theorem bitMask_ne_zero {k : Nat} (hk : k < 8) : bitMask k ≠ 0#8 := by
  intro h
  have hbit : (bitMask k).getLsbD k = true := by simp [bitMask, hk]
  simp [h] at hbit

theorem bitMask_and_bitMask {i j : Nat} (h : i ≠ j) : bitMask i &&& bitMask j = 0#8 := by
  simp [bitMask, BitVec.twoPow_and, BitVec.getLsbD_twoPow, h.symm]

theorem bitMask_ne_bitMask {i j : Nat} (hi : i < 8) (h : i ≠ j) : bitMask i ≠ bitMask j := by
  intro heq
  have hand := bitMask_and_bitMask h
  rw [← heq, BitVec.and_self] at hand
  exact bitMask_ne_zero hi hand

/-- Of 8 positions, at least `8 - used.length` are free, and `freeBit` names one of them. -/
theorem freeBit_spec {used : List Nat} {k : Nat} (hk : k + used.length < 8) :
    freeBit used k < 8 ∧ freeBit used k ∉ used := by
  have hcover : List.range 8 ⊆ used ++ (List.range 8).filter (fun i => !used.contains i) := by
    intro i hi
    by_cases hu : i ∈ used <;> simp_all
  have hcount := (List.nodup_range.subperm hcover).length_le
  have hlen : k < ((List.range 8).filter (fun i => !used.contains i)).length := by
    rw [List.length_append, List.length_range] at hcount
    omega
  have hmem : freeBit used k ∈ (List.range 8).filter (fun i => !used.contains i) := by
    rw [freeBit, List.getD_eq_getElem _ _ hlen]
    exact List.getElem_mem hlen
  simpa using hmem

/-- The masks are admissible exactly when they are the bits of three different positions. -/
theorem JogMasks.admissible_iff (m : JogMasks) : m.admissible = true ↔
    ∃ p q r, p < 8 ∧ q < 8 ∧ r < 8 ∧ p ≠ q ∧ p ≠ r ∧ q ≠ r ∧ m = ⟨bitMask p, bitMask q, bitMask r⟩ := by
  obtain ⟨mo, ms, mr⟩ := m
  simp only [admissible, Bool.and_eq_true, List.any_eq_true, List.mem_range, beq_iff_eq, bne_iff_ne]
  constructor
  · rintro ⟨⟨⟨⟨⟨⟨p, hp, rfl⟩, q, hq, rfl⟩, r, hr, rfl⟩, hpq⟩, hpr⟩, hqr⟩
    exact ⟨p, q, r, hp, hq, hr, fun h => hpq (h ▸ rfl), fun h => hpr (h ▸ rfl), fun h => hqr (h ▸ rfl), rfl⟩
  · rintro ⟨p, q, r, hp, hq, hr, hpq, hpr, hqr, heq⟩
    cases heq
    exact ⟨⟨⟨⟨⟨⟨p, hp, rfl⟩, q, hq, rfl⟩, r, hr, rfl⟩, bitMask_ne_bitMask hp hpq⟩, bitMask_ne_bitMask hp hpr⟩,
      bitMask_ne_bitMask hq hqr⟩

/-- Whatever the open choice of positions is, the masks are as D6 says. -/
theorem JogMasks.admissible_ofChoice (c : Fin 8 × Fin 7 × Fin 6) : (JogMasks.ofChoice c).admissible = true := by
  obtain ⟨p, q, r⟩ := c
  have hq : freeBit [p.val] q.val < 8 ∧ freeBit [p.val] q.val ∉ [p.val] :=
    freeBit_spec (by simp; omega)
  have hr : freeBit [p.val, freeBit [p.val] q.val] r.val < 8 ∧
      freeBit [p.val, freeBit [p.val] q.val] r.val ∉ [p.val, freeBit [p.val] q.val] :=
    freeBit_spec (by simp; omega)
  obtain ⟨hq8, hqp⟩ := hq
  obtain ⟨hr8, hrpq⟩ := hr
  simp only [List.mem_cons, List.not_mem_nil, or_false, not_or] at hqp hrpq
  obtain ⟨hrp, hrq⟩ := hrpq
  exact (admissible_iff _).2 ⟨_, _, _, p.isLt, hq8, hr8, Ne.symm hqp, Ne.symm hrp, Ne.symm hrq, rfl⟩

theorem jogMasks_admissible : jogMasks.admissible = true := JogMasks.admissible_ofChoice _

/-- A flag's term of `flagsByte` meets its own mask and no other. -/
theorem flag_and_bitMask (b : Bool) (i j : Nat) :
    (if b then bitMask i else 0#8) &&& bitMask j = if i = j then (if b then bitMask j else 0#8) else 0#8 := by
  by_cases h : i = j
  · cases b <;> simp [h]
  · cases b <;> simp [h, bitMask_and_bitMask h]

theorem flag_bne_zero {k : Nat} (hk : k < 8) (b : Bool) : ((if b then bitMask k else 0#8) != 0#8) = b := by
  cases b <;> simp [bitMask_ne_zero hk]

/-- Admissible masks pick each flag out of the byte. -/
theorem flagsByte_and_mask {m : JogMasks} (h : m.admissible = true) (fl : JogFlags) :
    (flagsByte m fl &&& m.osl != 0#8) = fl.osl ∧ (flagsByte m fl &&& m.stop != 0#8) = fl.stop ∧
      (flagsByte m fl &&& m.reset != 0#8) = fl.reset := by
  obtain ⟨p, q, r, hp, hq, hr, hpq, hpr, hqr, rfl⟩ := m.admissible_iff.1 h
  simp only [flagsByte, BitVec.and_or_distrib_right, flag_and_bitMask]
  refine ⟨?osl, ?stop, ?reset⟩
  case osl => simp [hpq.symm, hpr.symm, flag_bne_zero hp]
  case stop => simp [hpq, hqr.symm, flag_bne_zero hq]
  case reset => simp [hpr, hqr, flag_bne_zero hr]

/-- The byte has no bit outside the masks, whatever they are. -/
theorem flagsByte_and_not_masks (m : JogMasks) (fl : JogFlags) :
    flagsByte m fl &&& ~~~(m.osl ||| m.stop ||| m.reset) = 0#8 := by
  have hterm (b : Bool) (x : Byte) (i : Nat) : (if b then x else 0#8).getLsbD i = (b && x.getLsbD i) := by
    cases b <;> simp
  apply BitVec.eq_of_getLsbD_eq
  intro i hi
  simp only [flagsByte, BitVec.getLsbD_and, BitVec.getLsbD_or, BitVec.getLsbD_not, hterm, BitVec.getLsbD_zero, hi]
  cases m.osl.getLsbD i <;> cases m.stop.getLsbD i <;> cases m.reset.getLsbD i <;> simp

/-- Reading a `flagsByte` back gives the flags (R77, R84). -/
theorem readFlags_flagsByte {m : JogMasks} (h : m.admissible = true) (fl : JogFlags) :
    readFlags m (flagsByte m fl) = some fl := by
  obtain ⟨hosl, hstop, hreset⟩ := flagsByte_and_mask h fl
  unfold readFlags
  split
  next hzero =>
    simp only [hzero, BitVec.zero_and, bne_self_eq_false] at hosl hstop hreset
    cases fl
    cases hosl
    cases hstop
    cases hreset
    rfl
  next =>
    rw [if_pos (flagsByte_and_not_masks m fl), hosl, hstop, hreset]

theorem flagsByte_injective {m : JogMasks} (h : m.admissible = true) : Function.Injective (flagsByte m) := by
  intro fl fl' heq
  have hread := congrArg (readFlags m) heq
  simpa only [readFlags_flagsByte h, Option.some.injEq] using hread

/-! ### The LRC of the parts of a frame (R104) -/

/-- The fold splits over concatenation (R104, law (b)). -/
@[simp] theorem lrc_append (s t : Bytes) : lrc (s ++ t) = lrc s ^^^ lrc t := by
  induction t using List.reverseRecOn with
  | nil => simp [lrc]
  | append_singleton t b ih => rw [← List.append_assoc, lrc_concat, ih, lrc_concat, BitVec.xor_assoc]

@[simp] theorem lrc_singleton (b : Byte) : lrc [b] = b := by simp [lrc, lrcAcc]

/-- Folding the checksum in with its span gives 0x00 (R104, law (d)). -/
theorem lrc_append_lrc (s : Bytes) : lrc (s ++ [lrc s]) = 0#8 := by simp

/-- The pad is zeros, and does not count in any fold. -/
@[simp] theorem lrc_padOf (op : Byte) : lrc (padOf op) = 0#8 := by
  unfold padOf
  split <;> simp [lrc, lrcAcc]

/-! ### Which payloads there are (R141 to R146) -/

/-- The index byte of a preset command is at most 0x1F (R78). -/
theorem presetPayload_ok {index : Arg} {p : Bytes} (h : presetPayload index = .ok p) : ∃ b : Byte, p = [b] ∧ b ≤ 0x1F#8 := by
  simp only [presetPayload, presetByte, Config.PRESET_MIN, Config.PRESET_MAX] at h
  split at h
  next b hb =>
    split at hb <;> cases hb
    cases h
    refine ⟨_, rfl, ?_⟩
    have hindex := BitVec.toInt_eq_toNat_cond index
    have hlt := index.isLt
    rw [BitVec.le_def, BitVec.extractLsb'_toNat, Nat.shiftRight_zero]
    simp only [Config.ARG_W, BitVec.toNat_ofNat] at *
    omega
  next => cases h

/-- Both coordinates take two bytes (R143). -/
theorem coordinatePayload_ok {pan tilt : Arg} {p : Bytes} (h : coordinatePayload pan tilt = .ok p) :
    ∃ pl ph tl th, p = [pl, ph, tl, th] := by
  unfold coordinatePayload at h
  split at h <;> cases h
  exact ⟨_, _, _, _, rfl⟩

theorem payloadOf_coordinate {r : Request} (h : r.op = 0x33#8) : payloadOf r = coordinatePayload r.a0 r.a1 := by
  simp [payloadOf, h]

theorem payloadOf_preset {r : Request} (h : r.op = 0x40#8 ∨ r.op = 0x42#8) : payloadOf r = presetPayload r.a0 := by
  obtain h | h := h <;> simp [payloadOf, h]

theorem payloadOf_empty {r : Request} (h : r.op = 0x35#8 ∨ r.op = 0x36#8) : payloadOf r = .ok [] := by
  obtain h | h := h <;> simp [payloadOf, h]

/-- Everything the payload of a request can be, by command. -/
theorem payloadOf_cases {r : Request} {p : Bytes} (h : payloadOf r = .ok p) :
    (r.op = 0x31#8 ∧ r.a2 = 0 ∧ p = jogPayload0 jogMasks r.fl) ∨
    (r.op = 0x31#8 ∧ r.a2 ≠ 0 ∧ p = jogPayloadN jogMasks r.fl) ∨
    (r.op = 0x33#8 ∧ ∃ pl ph tl th, p = [pl, ph, tl, th]) ∨
    (r.op = 0x35#8 ∧ p = []) ∨
    (r.op = 0x36#8 ∧ p = []) ∨
    (r.op = 0x40#8 ∧ ∃ b : Byte, p = [b] ∧ b ≤ 0x1F#8) ∨
    (r.op = 0x42#8 ∧ ∃ b : Byte, p = [b] ∧ b ≤ 0x1F#8) := by
  unfold payloadOf at h
  split at h
  next hop =>
    rw [jogChecked_default] at h
    split at h
    next ha => cases h; exact .inl ⟨hop, ha, rfl⟩
    next ha => cases h; exact .inr (.inl ⟨hop, ha, rfl⟩)
  next =>
  split at h
  next hop => exact .inr (.inr (.inl ⟨hop, coordinatePayload_ok h⟩))
  next =>
  split at h
  next hop => cases h; exact .inr (.inr (.inr (.inl ⟨hop, rfl⟩)))
  next =>
  split at h
  next hop => cases h; exact .inr (.inr (.inr (.inr (.inl ⟨hop, rfl⟩))))
  next =>
  split at h
  next hop => exact .inr (.inr (.inr (.inr (.inr (.inl ⟨hop, presetPayload_ok h⟩)))))
  next =>
  split at h
  next hop => exact .inr (.inr (.inr (.inr (.inr (.inr ⟨hop, presetPayload_ok h⟩)))))
  next => cases h

/-- A frame is its payload assembled. -/
theorem buildFrame_ok {r : Request} {f : Bytes} (h : buildFrame r = .ok f) :
    ∃ p, payloadOf r = .ok p ∧ f = assemble r.op p := by
  unfold buildFrame at h
  split at h <;> cases h
  exact ⟨_, ‹_›, rfl⟩

/-- No command byte is the padding byte, so offset 1 tells the two formats apart (R84). -/
theorem op_ne_pad_of_payloadOf {r : Request} {p : Bytes} (h : payloadOf r = .ok p) : r.op ≠ Config.PAD := by
  intro hop
  simp [payloadOf, hop] at h

/-- The length of every frame, by command (R73). -/
theorem length_assemble_payloadOf {r : Request} {p : Bytes} (h : payloadOf r = .ok p) :
    (assemble r.op p).length = (if r.op = 0x35#8 then 4 else if r.op = 0x36#8 then 5 else if r.op = 0x42#8 then 5
      else if r.op = 0x40#8 then 6 else if r.op = 0x33#8 then 8 else if r.a2 = 0 then 10 else 8) := by
  rw [length_assemble]
  obtain ⟨hop, ha, rfl⟩ | ⟨hop, ha, rfl⟩ | ⟨hop, _, _, _, _, rfl⟩ | ⟨hop, rfl⟩ | ⟨hop, rfl⟩ | ⟨hop, _, rfl, _⟩ |
    ⟨hop, _, rfl, _⟩ := payloadOf_cases h
  · simp [hop, ha, padOf, jogPayload0]
  · rw [if_neg ha]
    simp [hop, padOf, jogPayloadN]
  all_goals simp [hop, padOf]

theorem length_assemble_payloadOf_mem {r : Request} {p : Bytes} (h : payloadOf r = .ok p) :
    (assemble r.op p).length ∈ [4, 5, 6, 8, 10] := by
  rw [length_assemble_payloadOf h]
  split_ifs <;> decide

/-! ### What a frame is made of (R70, R71, R75, R82) -/

/-- A middle part of a sequence is the slice between its two ends. -/
theorem slice_append_middle (a b c : Bytes) {first last : Nat} (hfirst : first = a.length)
    (hlast : last + 1 = a.length + b.length) : slice (a ++ b ++ c) first last = b := by
  have hlen : last + 1 - first = b.length := by omega
  rw [slice, hlen, List.append_assoc, List.drop_left' hfirst.symm, List.take_left]

/-- The head of a frame: the start marker and the pad. -/
def headOf (op : Byte) : Bytes := Config.STX :: padOf op

theorem assemble_eq (op : Byte) (p : Bytes) :
    assemble op p = headOf op ++ (op :: p) ++ [lrc (op :: p), Config.ETX] := by
  simp [assemble, headOf]

@[simp] theorem length_headOf (op : Byte) : (headOf op).length = 1 + (padOf op).length := by
  simp [headOf, Nat.add_comm]

theorem cmdOffset_assemble {op : Byte} (hop : op ≠ Config.PAD) (p : Bytes) :
    cmdOffset (assemble op p) = (headOf op).length := by
  rw [length_headOf]
  by_cases hpad : op = Config.CMD_JOG ∨ op = Config.CMD_HOME ∨ op = Config.CMD_RETRIEVE
  · simp [cmdOffset, assemble, padOf, if_pos hpad]
  · simpa [cmdOffset, assemble, padOf, if_neg hpad] using hop

/-- The checksum span of a frame is its command byte and its payload (R75). -/
theorem spanOf_assemble {op : Byte} (hop : op ≠ Config.PAD) (p : Bytes) : spanOf (assemble op p) = op :: p := by
  rw [spanOf, cmdOffset_assemble hop, length_assemble, assemble_eq]
  refine slice_append_middle _ _ _ rfl ?_
  simp only [length_headOf, List.length_cons]
  omega

/-- The span with the checksum after it. -/
theorem slice_span_checksum {op : Byte} (hop : op ≠ Config.PAD) (p : Bytes) :
    slice (assemble op p) (cmdOffset (assemble op p)) ((assemble op p).length - 2) = (op :: p) ++ [lrc (op :: p)] := by
  have hparts : assemble op p = headOf op ++ ((op :: p) ++ [lrc (op :: p)]) ++ [Config.ETX] := by simp [assemble_eq]
  rw [cmdOffset_assemble hop, length_assemble, hparts]
  refine slice_append_middle _ _ _ rfl ?_
  simp only [length_headOf, List.length_append, List.length_cons, List.length_nil]
  omega

/-- Everything after the start marker, up to the checksum. -/
theorem slice_one_checksum (op : Byte) (p : Bytes) :
    slice (assemble op p) 1 ((assemble op p).length - 2) = padOf op ++ ((op :: p) ++ [lrc (op :: p)]) := by
  have hparts : assemble op p = [Config.STX] ++ (padOf op ++ ((op :: p) ++ [lrc (op :: p)])) ++ [Config.ETX] := by
    simp [assemble]
  rw [length_assemble, hparts]
  refine slice_append_middle _ _ _ rfl ?_
  simp only [List.length_append, List.length_cons, List.length_nil]
  omega

/-- A whole frame folds to STX and ETX alone (R83). -/
theorem lrc_assemble (op : Byte) (p : Bytes) : lrc (assemble op p) = 0x01#8 := by
  have hparts : assemble op p = [Config.STX] ++ padOf op ++ ((op :: p) ++ [lrc (op :: p)]) ++ [Config.ETX] := by
    simp [assemble]
  rw [hparts, lrc_append, lrc_append, lrc_append, lrc_append_lrc, lrc_padOf, lrc_singleton, lrc_singleton]
  rfl

/-- The last two bytes are the checksum and the end marker (R82). -/
theorem getElem?_assemble_end (op : Byte) (p : Bytes) :
    (assemble op p)[(assemble op p).length - 2]? = some (lrc (op :: p)) ∧
      (assemble op p)[(assemble op p).length - 1]? = some Config.ETX := by
  rw [assemble_eq]
  generalize headOf op ++ (op :: p) = front
  simp

end Sys2Proof.Machine

namespace Sys2Proof

open Machine

/-- Settles O11: the masks are three different bits for every choice of positions, and `readFlags` undoes `flagsByte`. -/
theorem flagsByteTellsFlagsApart : Obligations.FlagsByteTellsFlagsApart :=
  ⟨jogMasks_admissible, fun _ => rfl, flagsByte_none jogMasks, flagsByte_and_not_masks jogMasks,
    fun _ _ h => flagsByte_injective jogMasks_admissible h⟩

/-- Settles O14, by the cases of the payload. -/
theorem frameLengthsByCommand : Obligations.FrameLengthsByCommand := by
  intro r f h
  obtain ⟨p, hp, rfl⟩ := buildFrame_ok h
  have hmem := length_assemble_payloadOf_mem hp
  refine ⟨length_assemble_payloadOf hp, hmem, ?_, rfl⟩
  simp only [List.mem_cons, List.not_mem_nil, or_false] at hmem
  simp only [Config.TX_MAX]
  omega

/-- Settles O15: the clauses speak of `assemble` for any command byte that is not the padding byte, but for those about one command, which
speak of its payload. -/
theorem everyFrameIsDelimitedAndSummed : Obligations.EveryFrameIsDelimitedAndSummed := by
  intro r f h
  obtain ⟨p, hp, rfl⟩ := buildFrame_ok h
  have hop := op_ne_pad_of_payloadOf hp
  obtain ⟨hcks, hetx⟩ := getElem?_assemble_end r.op p
  have hlen := length_assemble_payloadOf_mem hp
  simp only [List.mem_cons, List.not_mem_nil, or_false] at hlen
  simp only [spanOf_assemble hop]
  refine ⟨rfl, hetx, hcks, ?parts, rfl, by omega, by omega, ?coordinate, ?preset, ?span, ?offsetOne, lrc_assemble _ _, ?empty⟩
  case parts => rw [cmdOffset_assemble hop, assemble_eq, List.append_assoc, List.take_left, ← List.append_assoc]
  case span => rw [slice_span_checksum hop, lrc_append_lrc]
  case offsetOne => rw [slice_one_checksum, lrc_append, lrc_padOf, lrc_append_lrc, BitVec.xor_self]
  case coordinate =>
    intro hcmd
    obtain ⟨pl, ph, tl, th, rfl⟩ := coordinatePayload_ok (payloadOf_coordinate hcmd ▸ hp)
    rfl
  case preset =>
    intro hcmd
    obtain ⟨b, rfl, hb⟩ := presetPayload_ok (payloadOf_preset hcmd ▸ hp)
    exact ⟨b, rfl, hb⟩
  case empty =>
    intro hcmd
    cases (payloadOf_empty hcmd).symm.trans hp
    rw [hcks, lrc_singleton]

end Sys2Proof
end

section
/-! SUPPORT and the statements about the absent sequence and the XOR fold (spec/40_lrc.md): the laws of R104 that a frame does not need,
the errors the framer can raise, and O2 and O3. -/

namespace Sys2Proof.Machine

/-! ### The LRC as an XOR fold (R104) -/

theorem lrc_cons (b : Byte) (s : Bytes) : lrc (b :: s) = b ^^^ lrc s := by
  rw [← List.singleton_append, lrc_append, lrc_singleton]

/-- The order of the bytes does not matter, since XOR is commutative and associative (R104, law (e)). -/
theorem lrc_perm {s u : Bytes} (h : s.Perm u) : lrc s = lrc u := by
  induction h with
  | nil => rfl
  | cons b _ ih => rw [lrc_cons, lrc_cons, ih]
  | swap a b s => rw [lrc_cons, lrc_cons, lrc_cons, lrc_cons, ← BitVec.xor_assoc, BitVec.xor_comm b a, BitVec.xor_assoc]
  | trans _ _ ihs ihu => exact ihs.trans ihu

/-- A zero byte anywhere changes nothing (R104, law (d)). -/
theorem lrc_append_zero_cons (s t : Bytes) : lrc (s ++ 0#8 :: t) = lrc (s ++ t) := by
  rw [lrc_append, lrc_cons, BitVec.zero_xor, lrc_append]

/-- Each bit of the LRC is the parity of that bit over the bytes: one more byte flips it exactly when its own bit is set (R104, law (g)). -/
theorem getLsbD_lrc (s : Bytes) (k : Nat) :
    (lrc s).getLsbD k = decide (s.countP (fun x => x.getLsbD k) % 2 = 1) := by
  induction s with
  | nil => simp [lrc]
  | cons b s ih =>
    rw [lrc_cons, BitVec.getLsbD_xor, ih, List.countP_cons]
    cases b.getLsbD k with
    | false => simp
    | true =>
      rw [Bool.true_xor, ← decide_not, if_pos rfl, decide_eq_decide]
      omega

/-! ### The errors of the framer (R140) -/

theorem encodeSignedShort_error {v : Int} {e : ErrCode} (h : encodeSignedShort v = .error e) : e = .outOfRange := by
  unfold encodeSignedShort at h
  split at h <;> cases h
  rfl

theorem coordinatePayload_error {pan tilt : Arg} {e : ErrCode} (h : coordinatePayload pan tilt = .error e) :
    e = .outOfRange := by
  unfold coordinatePayload at h
  split at h
  next => cases h
  next hpan => cases h; exact encodeSignedShort_error hpan
  next htilt _ => cases h; exact encodeSignedShort_error htilt

theorem presetByte_error {index : Arg} {e : ErrCode} (h : presetByte index = .error e) : e = .presetOutOfRange := by
  unfold presetByte at h
  split at h <;> cases h
  rfl

theorem presetPayload_error {index : Arg} {e : ErrCode} (h : presetPayload index = .error e) : e = .presetOutOfRange := by
  unfold presetPayload at h
  split at h
  next => cases h
  next hindex => cases h; exact presetByte_error hindex

/-- A byte that is no command fails before any other operand is read (R150). -/
theorem payloadOf_unlisted {r : Request} (h : r.op ∉ [0x31#8, 0x33#8, 0x35#8, 0x36#8, 0x40#8, 0x42#8]) :
    payloadOf r = .error .illegalCommand := by
  simp only [List.mem_cons, List.not_mem_nil, or_false, not_or] at h
  simp [payloadOf, h]

/-- Everything the framer can fail with, by command: a coordinate's error, a preset index's, or that of an unlisted command. -/
theorem payloadOf_error_cases {r : Request} {e : ErrCode} (h : payloadOf r = .error e) :
    (r.op = 0x33#8 ∧ e = .outOfRange) ∨
    ((r.op = 0x40#8 ∨ r.op = 0x42#8) ∧ e = .presetOutOfRange) ∨
    (r.op ∉ [0x31#8, 0x33#8, 0x35#8, 0x36#8, 0x40#8, 0x42#8] ∧ e = .illegalCommand) := by
  by_cases hcoordinate : r.op = 0x33#8
  · rw [payloadOf_coordinate hcoordinate] at h
    exact .inl ⟨hcoordinate, coordinatePayload_error h⟩
  by_cases hpreset : r.op = 0x40#8 ∨ r.op = 0x42#8
  · rw [payloadOf_preset hpreset] at h
    exact .inr (.inl ⟨hpreset, presetPayload_error h⟩)
  by_cases hempty : r.op = 0x35#8 ∨ r.op = 0x36#8
  · rw [payloadOf_empty hempty] at h
    cases h
  by_cases hjog : r.op = 0x31#8
  · simp [payloadOf, hjog] at h
  have hunlisted : r.op ∉ [0x31#8, 0x33#8, 0x35#8, 0x36#8, 0x40#8, 0x42#8] := by simp_all
  rw [payloadOf_unlisted hunlisted] at h
  cases h
  exact .inr (.inr ⟨hunlisted, rfl⟩)

/-- The framer fails with its payload's error. -/
theorem buildFrame_error {r : Request} {e : ErrCode} (h : buildFrame r = .error e) : payloadOf r = .error e := by
  unfold buildFrame at h
  split at h <;> cases h
  assumption

end Sys2Proof.Machine

namespace Sys2Proof

open Machine

/-- Settles O3: law by law, the permutation by induction on it and the bit parity by induction on the bytes. -/
theorem lrcIsTheXorFold : Obligations.LrcIsTheXorFold := by
  intro s t u b
  refine ⟨rfl, lrc_append s t, lrc_singleton b, lrc_append_lrc s, by simp, lrc_append_zero_cons s t, lrc_perm,
    BitVec.xor_self, fun k _ => getLsbD_lrc s k⟩

/-- Settles O2: each form of the unit answers the absent sequence by its definition, and `InvalidInput` is none of the framer's errors. -/
theorem absentSpanIsInvalidInput : Obligations.AbsentSpanIsInvalidInput := by
  refine ⟨rfl, nofun, fun _ => ⟨rfl, rfl⟩, fun r h => ?framer⟩
  case framer =>
    obtain ⟨-, he⟩ | ⟨-, he⟩ | ⟨-, he⟩ := payloadOf_error_cases (buildFrame_error h) <;> cases he

end Sys2Proof
end

section
/-! SUPPORT and the statements about the SignedShort codec (spec/41_signed_short.md): the range check and the two bytes of the encoder,
the sign extension of the decoder, and O6 to O9. -/

namespace Sys2Proof.Machine

/-! ### The encoder (R121, R122) -/

/-- The range check comes first, and looks at the whole value (R122). -/
theorem encodeSignedShort_eq_outOfRange_iff (v : Int) :
    encodeSignedShort v = .error .outOfRange ↔ v > 32767 ∨ v < -32768 := by
  unfold encodeSignedShort
  split
  next hout => exact ⟨fun _ => hout, fun _ => rfl⟩
  next hin => exact ⟨nofun, fun hout => absurd hout hin⟩

/-- The encoder gives a pair exactly when the pair is the two-byte form of `v mod 65536`, low byte first, and `v` is in range (R121). -/
theorem encodeSignedShort_eq_ok_iff (v : Int) (lo hi : Byte) :
    encodeSignedShort v = .ok (lo, hi) ↔
      (-32768 ≤ v ∧ v ≤ 32767) ∧ (lo.toNat : Int) + 256 * hi.toNat = v % 65536 := by
  unfold encodeSignedShort
  split
  next hout =>
    simp only [Config.SS_MAX, Config.SS_MIN] at hout
    refine ⟨nofun, fun ⟨hrange, _⟩ => ?_⟩
    omega
  next hin =>
    simp only [Config.SS_MAX, Config.SS_MIN] at hin
    have hlo := lo.isLt
    have hhi := hi.isLt
    simp only [Except.ok.injEq, Prod.mk.injEq, ← BitVec.toNat_inj, BitVec.toNat_ofNat]
    omega

/-- The range check is the only way to fail (R122). -/
theorem encodeSignedShort_isOk_iff (v : Int) :
    (∃ p, encodeSignedShort v = .ok p) ↔ -32768 ≤ v ∧ v ≤ 32767 := by
  constructor
  · rintro ⟨⟨lo, hi⟩, hok⟩
    exact ((encodeSignedShort_eq_ok_iff v lo hi).1 hok).1
  · intro hrange
    cases hv : encodeSignedShort v with
    | ok p => exact ⟨p, rfl⟩
    | error e =>
      have hout := (encodeSignedShort_eq_outOfRange_iff v).1 (encodeSignedShort_error hv ▸ hv)
      omega

/-- The bytes of a value in range (R121). -/
theorem encodeSignedShort_of_inRange {v : Int} (hmin : -32768 ≤ v) (hmax : v ≤ 32767) :
    ∃ lo hi : Byte, (lo.toNat : Int) + 256 * hi.toNat = v % 65536 ∧ encodeSignedShort v = .ok (lo, hi) := by
  obtain ⟨⟨lo, hi⟩, hok⟩ := (encodeSignedShort_isOk_iff v).2 ⟨hmin, hmax⟩
  obtain ⟨-, hbytes⟩ := (encodeSignedShort_eq_ok_iff v lo hi).1 hok
  exact ⟨lo, hi, hbytes, hok⟩

/-- What the encoder port presents where the encoding succeeds. -/
theorem exec_encodeSignedShort_of_ok {v : Arg} {lo hi : Byte} (h : encodeSignedShort v.toInt = .ok (lo, hi)) (s : State) :
    exec (.encodeSignedShort v) s = .next (s.present (.pair lo hi)) := by
  simp [exec, execEncodeSignedShort, h]

/-- What the encoder port presents where the encoding fails. -/
theorem exec_encodeSignedShort_of_error {v : Arg} {e : ErrCode} (h : encodeSignedShort v.toInt = .error e) (s : State) :
    exec (.encodeSignedShort v) s = .next (s.present (.failed e)) := by
  simp [exec, execEncodeSignedShort, h]

/-! ### The range on the 32-bit port (R122) -/

/-- The low half sign-extends to the argument exactly when the argument is in range. -/
theorem signExtend_setWidth_eq_self_iff (v : Arg) :
    (v.setWidth 16).signExtend 32 = v ↔ -32768 ≤ v.toInt ∧ v.toInt ≤ 32767 := by
  have hv := BitVec.toInt_eq_toNat_cond v
  rw [← BitVec.toInt_inj, BitVec.toInt_signExtend_of_le (by decide), BitVec.toInt_setWidth, Int.bmod_eq_iff (by decide)]
  simp only [Config.ARG_W] at *
  omega

/-- Above bit 15 the sign extension of the low half repeats that bit. -/
theorem getLsbD_signExtend_setWidth (v : Arg) {k : Nat} (hk : k < 32) :
    ((v.setWidth 16).signExtend 32).getLsbD k = if k < 16 then v.getLsbD k else v.getLsbD 15 := by
  simp only [BitVec.getLsbD_signExtend, BitVec.getLsbD_setWidth, BitVec.msb_setWidth, hk]
  split <;> simp_all

/-- The low half sign-extends to the argument exactly when the argument's bits 31 to 15 are all equal. -/
theorem signExtend_setWidth_eq_self_iff_bits (v : Arg) :
    (v.setWidth 16).signExtend 32 = v ↔ ∀ k, 15 ≤ k → k < 32 → v.getLsbD k = v.getLsbD 31 := by
  constructor
  · intro hself
    have hhigh (k : Nat) (hge : 15 ≤ k) (hlt : k < 32) : v.getLsbD k = v.getLsbD 15 := by
      obtain rfl | hgt := hge.eq_or_lt
      · rfl
      · have hbit := getLsbD_signExtend_setWidth v hlt
        rwa [hself, if_neg (by omega)] at hbit
    intro k hge hlt
    rw [hhigh k hge hlt, hhigh 31 (by decide) (by decide)]
  · intro hequal
    apply BitVec.eq_of_getLsbD_eq
    intro k hk
    rw [getLsbD_signExtend_setWidth v hk]
    split
    next => rfl
    next hge => rw [hequal 15 (by decide) (by decide), hequal k (by omega) hk]

/-! ### The decoder (R123) -/

/-- The decoder reads the 16-bit pattern, high byte first, as a signed number. -/
theorem decodeSignedShort_eq_toInt (lo hi : Byte) : decodeSignedShort lo hi = (hi ++ lo).toInt := by
  have hhi := BitVec.toInt_eq_toNat_cond hi
  have hlo := lo.isLt
  rw [BitVec.toInt_append, decodeSignedShort]
  simp only [Nat.reduceBEq, Bool.false_eq_true, if_false]
  split <;> omega

/-- The decoded value is in range, and has the two bytes modulo 65536. -/
theorem decodeSignedShort_spec (lo hi : Byte) :
    (-32768 ≤ decodeSignedShort lo hi ∧ decodeSignedShort lo hi ≤ 32767) ∧
      (lo.toNat : Int) + 256 * hi.toNat = decodeSignedShort lo hi % 65536 := by
  have hhi := hi.isLt
  have hlo := lo.isLt
  unfold decodeSignedShort
  dsimp only
  split <;> omega

/-- The decoder port carries the sign extension of the 16-bit pattern. -/
theorem decPort_eq_signExtend (lo hi : Byte) : decPort lo hi = (hi ++ lo).signExtend 32 := by
  rw [decPort, decodeSignedShort_eq_toInt, BitVec.signExtend]

/-- The decoded value fits the port. -/
theorem toInt_decPort (lo hi : Byte) : (decPort lo hi).toInt = decodeSignedShort lo hi := by
  rw [decPort_eq_signExtend, BitVec.toInt_signExtend_of_le (by decide), decodeSignedShort_eq_toInt]

/-! ### The round trips (R124, R125) -/

theorem decodeSignedShort_of_encodeSignedShort {v : Int} {lo hi : Byte} (h : encodeSignedShort v = .ok (lo, hi)) :
    decodeSignedShort lo hi = v := by
  obtain ⟨hrange, hbytes⟩ := (encodeSignedShort_eq_ok_iff v lo hi).1 h
  obtain ⟨hdrange, hdbytes⟩ := decodeSignedShort_spec lo hi
  omega

theorem encodeSignedShort_decodeSignedShort (lo hi : Byte) :
    encodeSignedShort (decodeSignedShort lo hi) = .ok (lo, hi) :=
  (encodeSignedShort_eq_ok_iff _ lo hi).2 (decodeSignedShort_spec lo hi)

end Sys2Proof.Machine

namespace Sys2Proof

open Machine

/-- Settles O6: on the port, being in range and having equal high bits both say that the low half sign-extends to the argument. -/
theorem encodeFailsExactlyOutOfRange : Obligations.EncodeFailsExactlyOutOfRange := by
  refine ⟨encodeSignedShort_eq_outOfRange_iff, fun _ _ => encodeSignedShort_error, fun v => ?port⟩
  case port =>
    rw [encodeSignedShort_isOk_iff, ← signExtend_setWidth_eq_self_iff, signExtend_setWidth_eq_self_iff_bits]

/-- Settles O7: a value in range and its two bytes determine each other modulo 65536. -/
theorem signedShortRoundTrips : Obligations.SignedShortRoundTrips := by
  refine ⟨fun v hmin hmax => ?value, fun lo hi => ?bytes⟩
  case value =>
    obtain ⟨lo, hi, -, hok⟩ := encodeSignedShort_of_inRange hmin hmax
    exact ⟨lo, hi, hok, decodeSignedShort_of_encodeSignedShort hok⟩
  case bytes =>
    obtain ⟨⟨hmin, hmax⟩, -⟩ := decodeSignedShort_spec lo hi
    exact ⟨hmin, hmax, encodeSignedShort_decodeSignedShort lo hi⟩

/-- Settles O8: the port presents what the function gives for the argument's signed value. -/
theorem encoderPresentsTwosComplement : Obligations.EncoderPresentsTwosComplement := by
  refine ⟨fun v => ⟨encodeSignedShort_of_inRange, (encodeSignedShort_eq_outOfRange_iff v).2⟩,
    fun s v => ⟨fun hmin hmax => ?pair, fun hout => ?error⟩⟩
  case pair =>
    obtain ⟨lo, hi, hbytes, hok⟩ := encodeSignedShort_of_inRange hmin hmax
    exact ⟨lo, hi, hbytes, exec_encodeSignedShort_of_ok hok s⟩
  case error => exact exec_encodeSignedShort_of_error ((encodeSignedShort_eq_outOfRange_iff _).2 hout) s

/-- Settles O9: the presented word is the decoder port's, which holds the decoded value and is the sign extension. -/
theorem decoderPresentsSignedValue : Obligations.DecoderPresentsSignedValue := by
  intro s lo hi
  exact ⟨decPort lo hi, rfl, toInt_decPort lo hi, decPort_eq_signExtend lo hi⟩

end Sys2Proof
end

section
/-! SUPPORT and the statement about the framer's errors (spec/42_framer.md): when a coordinate pair and a preset index have no payload,
and O13. -/

namespace Sys2Proof.Machine

/-! ### When a payload fails (R143, R147) -/

/-- A coordinate pair has no payload exactly when one of the two values has no encoding. -/
theorem coordinatePayload_eq_outOfRange_iff (pan tilt : Arg) :
    coordinatePayload pan tilt = .error .outOfRange ↔
      encodeSignedShort pan.toInt = .error .outOfRange ∨ encodeSignedShort tilt.toInt = .error .outOfRange := by
  unfold coordinatePayload
  split
  next hpan htilt => simp [hpan, htilt]
  next hpan => simp [hpan, encodeSignedShort_error hpan]
  next htilt _ => simp [htilt, encodeSignedShort_error htilt]

/-- The range check of a preset index looks at the whole signed value (R147). -/
theorem presetByte_eq_presetOutOfRange_iff (index : Arg) :
    presetByte index = .error .presetOutOfRange ↔ index.toInt < 0 ∨ index.toInt > 31 := by
  unfold presetByte
  split
  next hout => exact ⟨fun _ => hout, fun _ => rfl⟩
  next hin => exact ⟨nofun, fun hout => absurd hout hin⟩

theorem presetPayload_eq_error_iff (index : Arg) (e : ErrCode) :
    presetPayload index = .error e ↔ presetByte index = .error e := by
  unfold presetPayload
  split
  next hindex => simp [hindex]
  next hindex => simp [hindex]

/-- The framer fails exactly when the payload does, and with the same error (R140). -/
theorem buildFrame_eq_error_iff (r : Request) (e : ErrCode) : buildFrame r = .error e ↔ payloadOf r = .error e := by
  refine ⟨buildFrame_error, fun h => ?_⟩
  simp [buildFrame, h]

/-! ### The error of each request (R140, R147, R150) -/

theorem buildFrame_coordinate_eq_outOfRange_iff {r : Request} (h : r.op = 0x33#8) :
    buildFrame r = .error .outOfRange ↔
      r.a0.toInt > 32767 ∨ r.a0.toInt < -32768 ∨ r.a1.toInt > 32767 ∨ r.a1.toInt < -32768 := by
  rw [buildFrame_eq_error_iff, payloadOf_coordinate h, coordinatePayload_eq_outOfRange_iff,
    encodeSignedShort_eq_outOfRange_iff, encodeSignedShort_eq_outOfRange_iff, or_assoc]

theorem buildFrame_preset_eq_presetOutOfRange_iff {r : Request} (h : r.op = 0x40#8 ∨ r.op = 0x42#8) :
    buildFrame r = .error .presetOutOfRange ↔ r.a0.toInt < 0 ∨ r.a0.toInt > 31 := by
  rw [buildFrame_eq_error_iff, payloadOf_preset h, presetPayload_eq_error_iff, presetByte_eq_presetOutOfRange_iff]

end Sys2Proof.Machine

namespace Sys2Proof

open Machine

/-- Settles O13: the command and the error determine each other, and each command's range check is an equivalence of its own. -/
theorem framerFailsExactlyAsListed : Obligations.FramerFailsExactlyAsListed := by
  intro r e
  constructor
  · intro h
    obtain ⟨hop, rfl⟩ | ⟨hop, rfl⟩ | ⟨hop, rfl⟩ := payloadOf_error_cases (buildFrame_error h)
    · exact .inr (.inl ⟨rfl, hop, (buildFrame_coordinate_eq_outOfRange_iff hop).1 h⟩)
    · exact .inr (.inr ⟨rfl, hop, (buildFrame_preset_eq_presetOutOfRange_iff hop).1 h⟩)
    · exact .inl ⟨rfl, by simpa using hop⟩
  · rintro (⟨rfl, hop⟩ | ⟨rfl, hop, hout⟩ | ⟨rfl, hop, hout⟩)
    · exact (buildFrame_eq_error_iff r _).2 (payloadOf_unlisted (by simpa using hop))
    · exact (buildFrame_coordinate_eq_outOfRange_iff hop).2 hout
    · exact (buildFrame_preset_eq_presetOutOfRange_iff hop).2 hout

end Sys2Proof
end

section
/-! SUPPORT and the statements about the steps of a transaction (spec/43_transaction.md): what serving a request, the send and the
receive come to in each answer of the channel, and O24, O25 and O27. -/

namespace Sys2Proof.Machine

/-! ### Serving a request (R172) -/

/-- A request that selects no command has an unlisted command byte (R72, R150). -/
theorem payloadOf_of_decodeRequest_eq_none {r : Request} (h : decodeRequest r = none) :
    payloadOf r = .error .illegalCommand := by
  apply payloadOf_unlisted
  intro hop
  simp only [List.mem_cons, List.not_mem_nil, or_false] at hop
  obtain hjog | hop := hop
  · rw [decodeRequest, if_pos hjog] at h
    split at h <;> cases h
  · obtain hop | hop | hop | hop | hop := hop <;> simp [decodeRequest, hop] at h

/-- Serving a request is steps (1) and (2) with the payload R140 takes from its operands, whatever its command byte. -/
theorem step_of_request {s : State} {r : Request} (hhost : s.host = []) (hidle : s.phase = .idle) (hport : s.port = some r) :
    step s = beginTransaction r.op (payloadOf r) (s.accept r) := by
  rw [step_of_host_nil hhost]
  cases hdecode : decodeRequest r with
  | none =>
    rw [payloadOf_of_decodeRequest_eq_none hdecode]
    simp [blockMove, hidle, hport, hdecode, runMove, beginTransaction]
  | some i =>
    obtain ⟨hop, hpayload⟩ := payloadOf_of_decodeRequest hdecode
    calc runMove (blockMove s)
        = exec i (s.accept r) := by simp [blockMove, hidle, hport, hdecode, runMove]
      _ = transact r.op i.framePayload (s.accept r) := exec_command hop _
      _ = beginTransaction r.op (payloadOf r) (s.accept r) := by
          rw [transact_idle (s := s.accept r) hidle, hpayload]

/-! ### A command in progress (R170) -/

/-- In `SEND` every command's meaning is the send step. -/
theorem exec_of_send {i : Instr} {s : State} (hi : i.isCommand = true) (hsend : s.phase = .send) :
    exec i s = sendStep s := by
  obtain ⟨op, hop⟩ := opByte_of_isCommand hi
  rw [exec_command hop, transact_send hsend]

/-- In `WAIT` every command's meaning is the receive step. -/
theorem exec_of_wait {i : Instr} {s : State} (hi : i.isCommand = true) (hwait : s.phase = .wait) :
    exec i s = recvStep s := by
  obtain ⟨op, hop⟩ := opByte_of_isCommand hi
  rw [exec_command hop, transact_wait hwait]

/-! ### The send, by its answer (R173, R174) -/

theorem sendStep_of_not_ready {s : State} (hready : s.chReady = false) :
    sendStep s = .next (s.abort .connectFailed false) := by
  simp [sendStep, hready]

theorem sendStep_of_ok {s : State} {f : Bytes} {later : List SendAnswer} (hready : s.chReady = true)
    (hframe : s.txFrame = some f) (hanswer : s.sendAnswers = .ok :: later) :
    sendStep s = .next (s.chSend f f .ok).awaitReply := by
  simp [sendStep, hready, hframe, hanswer]

theorem sendStep_of_failed {s : State} {f : Bytes} {n : Nat} {later : List SendAnswer} (hready : s.chReady = true)
    (hframe : s.txFrame = some f) (hanswer : s.sendAnswers = .failed n :: later) :
    sendStep s = .next ((s.chSend f (f.take n) .sendFailed).abort .sendFailed true) := by
  simp [sendStep, hready, hframe, hanswer]

/-- One `ChSend` with its answer taken from the list, field by field (R57, R174). -/
theorem State.chSend_of_cons {s : State} {answer : SendAnswer} {later : List SendAnswer}
    (h : s.sendAnswers = answer :: later) (frame reached : Bytes) (result : SendResult) :
    s.chSend frame reached result = { s with
      sendAnswers := later
      wire := s.wire ++ reached
      history := s.history ++ [.send frame result] } := by
  simp [State.chSend, State.record, h]

/-! ### The receive, by its answer (R175 to R177) -/

/-- A reply of at most `RX_MAX` bytes is delivered whole (R58, R175). -/
theorem cutReply_ok_of_length_le {max : Nat} {bytes : Bytes} (h : bytes.length ≤ max) :
    cutReply max (.ok bytes) = .ok bytes := by
  simp [cutReply, List.take_of_length_le h]

/-- A listed answer is what the receive gets, cut at `RX_MAX`. -/
theorem State.recvAnswer_of_cons {s : State} {answer : RecvAnswer} {later : List RecvAnswer}
    (h : s.recvAnswers = answer :: later) : s.recvAnswer = cutReply Config.RX_MAX answer := by
  simp [State.recvAnswer, h]

/-- A listed answer is used up, and no free answer is drawn. -/
theorem State.recvTaken_of_cons {s : State} {answer : RecvAnswer} {later : List RecvAnswer}
    (h : s.recvAnswers = answer :: later) : s.recvTaken = { s with recvAnswers := later } := by
  simp [State.recvTaken, h]

/-- The receive step on a listed answer that needs no cut: one event, and the end of the transaction. -/
theorem recvStep_of_cons {s : State} {answer : RecvAnswer} {later : List RecvAnswer} (h : s.recvAnswers = answer :: later)
    (hcut : cutReply Config.RX_MAX answer = answer) :
    recvStep s = .next (({ s with recvAnswers := later }.record (.recv answer)).takeReply
      Config.EMPTY_REPLY_IS_ERROR answer) := by
  rw [recvStep, State.recvAnswer_of_cons h, State.recvTaken_of_cons h, hcut]

/-- The reply stands in `RXBUF[0..RXLEN-1]` exactly as it came (R175). -/
theorem State.readBytes_complete (s : State) (bytes : Bytes) :
    Memory.readBytes (s.complete bytes).rxbuf 0 (s.complete bytes).rxlen = some bytes :=
  Memory.readBytes_writeBytes s.rxbuf 0 bytes

end Sys2Proof.Machine

namespace Sys2Proof

open Machine

/-- Settles O24: the step is `beginTransaction` on the payload of the request, whose two outcomes are those of `buildFrame`. -/
theorem servingBuildsTheFrameOrEnds : Obligations.ServingBuildsTheFrameOrEnds := by
  intro s r hhost hidle hport
  rw [step_of_request hhost hidle hport]
  constructor
  · intro e hframe
    rw [buildFrame_error hframe]
    rfl
  · intro f hframe
    obtain ⟨p, hpayload, rfl⟩ := buildFrame_ok hframe
    rw [hpayload]
    exact ⟨lrc (r.op :: p), true, rfl⟩

/-- Settles O25: every command in `SEND` takes the send step, whose outcome each answer of the channel fixes. -/
theorem sendStepByAnswer : Obligations.SendStepByAnswer := by
  intro i s hi hsend
  rw [exec_of_send hi hsend]
  refine ⟨fun hready => ?notConnected, fun f hready hframe =>
    ⟨fun later hanswer => ?sent, fun n later hanswer => ?failed⟩⟩
  case notConnected =>
    rw [sendStep_of_not_ready hready]
    exact ⟨[], rfl⟩
  case sent =>
    rw [sendStep_of_ok hready hframe hanswer, State.chSend_of_cons hanswer]
    rfl
  case failed =>
    rw [sendStep_of_failed hready hframe hanswer, State.chSend_of_cons hanswer]
    exact ⟨[], rfl⟩

/-- Settles O27: every command in `WAIT` takes the receive step; a reply within `RX_MAX` completes the transaction, and a failure
aborts it with `RXBUF` as it was. -/
theorem receiveStepByAnswer : Obligations.ReceiveStepByAnswer := by
  intro i s hi hwait
  rw [exec_of_wait hi hwait]
  refine ⟨fun bytes later hanswer hlength => ?reply, fun later hanswer => ?receiveFailed, fun later hanswer => ?timeout⟩
  case reply =>
    rw [recvStep_of_cons hanswer (cutReply_ok_of_length_le hlength), State.takeReply_default]
    exact ⟨_, rfl, rfl, State.readBytes_complete _ bytes⟩
  case receiveFailed =>
    rw [recvStep_of_cons hanswer rfl]
    exact ⟨[], s.rxbuf, rfl⟩
  case timeout =>
    rw [recvStep_of_cons hanswer rfl]
    exact ⟨[], s.rxbuf, rfl⟩

end Sys2Proof
end

section
/-! SUPPORT and the statements about the errors (spec/60_exceptions.md): everything a step of the block can come to, the class and
the `SENT` of the framer's errors, and O37, O38 and O39. -/

namespace Sys2Proof.Machine

/-- What a step of the block can do from `s`: wait for the host or serve a request in `IDLE` (R172), the outcomes of the send in `SEND`
(R173, R174), and those of the receive in `WAIT` (R175 to R177). -/
inductive BlockStep (s : State) : State → Prop where
  | idled (hidle : s.phase = .idle) (hport : s.port = none) : BlockStep s s
  | loaded (r : Request) (p : Bytes) (hidle : s.phase = .idle) (hport : s.port = some r) (hpayload : payloadOf r = .ok p) :
      BlockStep s ((s.accept r).loadFrame (assemble r.op p) (lrc (r.op :: p)))
  | rejected (r : Request) (e : ErrCode) (hidle : s.phase = .idle) (hport : s.port = some r) (hpayload : payloadOf r = .error e) :
      BlockStep s ((s.accept r).takeError e false)
  | notConnected (hsend : s.phase = .send) (hready : s.chReady = false) : BlockStep s (s.abort .connectFailed false)
  | sent (f : Bytes) (hsend : s.phase = .send) (hready : s.chReady = true) (hframe : s.txFrame = some f) :
      BlockStep s (s.chSend f f .ok).awaitReply
  | sendFailed (f : Bytes) (n : Nat) (hsend : s.phase = .send) (hready : s.chReady = true) (hframe : s.txFrame = some f) :
      BlockStep s ((s.chSend f (f.take n) .sendFailed).abort .sendFailed true)
  | replied (bytes : Bytes) (hwait : s.phase = .wait) (hanswer : s.recvAnswer = .ok bytes) :
      BlockStep s ((s.recvTaken.record (.recv (.ok bytes))).complete bytes)
  | receiveFailed (hwait : s.phase = .wait) (hanswer : s.recvAnswer = .receiveFailed) :
      BlockStep s ((s.recvTaken.record (.recv .receiveFailed)).abort .receiveFailed true)
  | timedOut (hwait : s.phase = .wait) (hanswer : s.recvAnswer = .timeout) :
      BlockStep s ((s.recvTaken.record (.recv .timeout)).abort .timeout true)

/-- With no request on the port an idle block waits (R189). -/
theorem step_of_no_request {s : State} (hhost : s.host = []) (hidle : s.phase = .idle) (hport : s.port = none) :
    step s = .next s := by
  rw [step_of_host_nil hhost]
  simp [blockMove, hidle, hport, runMove]

theorem step_of_send {s : State} (hhost : s.host = []) (hsend : s.phase = .send) : step s = sendStep s := by
  rw [step_of_host_nil hhost]
  simp [blockMove, hsend, runMove]

theorem step_of_wait {s : State} (hhost : s.host = []) (hwait : s.phase = .wait) : step s = recvStep s := by
  rw [step_of_host_nil hhost]
  simp [blockMove, hwait, runMove]

theorem blockStep_of_sendStep {s t : State} (hsend : s.phase = .send) (h : sendStep s = .next t) : BlockStep s t := by
  obtain ⟨hready, rfl⟩ | ⟨f, _, hready, hframe, -, rfl⟩ | ⟨f, n, _, hready, hframe, -, rfl⟩ := sendStep_cases h
  · exact .notConnected hsend hready
  · exact .sent f hsend hready hframe
  · exact .sendFailed f n hsend hready hframe

theorem blockStep_of_recvStep {s t : State} (hwait : s.phase = .wait) (h : recvStep s = .next t) : BlockStep s t := by
  simp only [recvStep, State.takeReply_default, Host.Outcome.next.injEq] at h
  subst h
  cases hanswer : s.recvAnswer with
  | ok bytes => exact .replied bytes hwait hanswer
  | receiveFailed => exact .receiveFailed hwait hanswer
  | timeout => exact .timedOut hwait hanswer

/-- With no act of the host to come, a step is one of the block's, by its phase. -/
theorem blockStep_of_step {s t : State} (hhost : s.host = []) (h : step s = .next t) : BlockStep s t := by
  cases hphase : s.phase with
  | idle =>
    cases hport : s.port with
    | none =>
      rw [step_of_no_request hhost hphase hport] at h
      cases h
      exact .idled hphase hport
    | some r =>
      rw [step_of_request hhost hphase hport] at h
      obtain ⟨e, hpayload, rfl⟩ | ⟨p, hpayload, rfl⟩ := beginTransaction_cases h
      · exact .rejected r e hphase hport hpayload
      · exact .loaded r p hphase hport hpayload
  | send => exact blockStep_of_sendStep hphase (step_of_send hhost hphase ▸ h)
  | wait => exact blockStep_of_recvStep hphase (step_of_wait hhost hphase ▸ h)

/-! ### The classes of the errors (R214) -/

theorem isLinkError_eq_not_isInputError {e : ErrCode} (h : e ≠ .ok) : isLinkError e = !isInputError e := by
  cases e with
  | ok => exact absurd rfl h
  | _ => rfl

/-- An error of the input class ends its transaction before the `ChSend` (R200). -/
theorem sentColumn_of_isInputError {e : ErrCode} (h : isInputError e = true) : sentColumn e = false := by
  cases e with
  | outOfRange | presetOutOfRange | invalidInput | illegalCommand => rfl
  | ok | connectFailed | sendFailed | receiveFailed | timeout => cases h

/-- The framer fails only with errors of the input class. -/
theorem isInputError_of_payloadOf {r : Request} {e : ErrCode} (h : payloadOf r = .error e) : isInputError e = true := by
  obtain ⟨-, rfl⟩ | ⟨-, rfl⟩ | ⟨-, rfl⟩ := payloadOf_error_cases h <;> rfl

end Sys2Proof.Machine

namespace Sys2Proof

open Machine

/-- Settles O39: error by error for the classes and their numbers; `SENT` is the column's in a good response. -/
theorem errorClassesAreTellable : Obligations.ErrorClassesAreTellable := by
  refine ⟨fun e he => ?exclusive, fun e => ?inputNumbers, fun e => ?linkNumbers, fun resp hgood hinput => ?notSent⟩
  case exclusive => simp [isLinkError_eq_not_isInputError he]
  case inputNumbers => cases e <;> decide
  case linkNumbers => cases e <;> decide
  case notSent =>
    obtain ⟨-, hsent, -, -⟩ := hgood
    rw [hsent, sentColumn_of_isInputError hinput]

/-- Settles O38: the step serves the request, and the framer refuses an unlisted byte before it reads anything else. -/
theorem unlistedCommandIsIllegal : Obligations.UnlistedCommandIsIllegal := by
  refine ⟨rfl, fun s r hhost hidle hport h31 h33 h35 h36 h40 h42 => ?_⟩
  have hunlisted : r.op ∉ [0x31#8, 0x33#8, 0x35#8, 0x36#8, 0x40#8, 0x42#8] := by simp [*]
  rw [step_of_request hhost hidle hport, payloadOf_unlisted hunlisted]
  rfl

/-- Settles O37, by the steps of the block: a step that is no ending adds no response, and a reply's response is a success; each of the
others is an error entry, and only that of a rejected request is of the input class. -/
theorem errorEntryChangesThisOnly : Obligations.ErrorEntryChangesThisOnly := by
  intro s t resp hhost hstep hresp herr
  cases blockStep_of_step hhost hstep with
  | idled | loaded | sent => simp at hresp
  | replied bytes =>
    obtain rfl : ⟨⟨.ok, true⟩, bytes⟩ = resp := by simpa using hresp
    exact absurd rfl herr
  | rejected r e hidle hport hpayload =>
    obtain rfl : ⟨⟨e, false⟩, []⟩ = resp := by simpa using hresp
    have hsent := sentColumn_of_isInputError (isInputError_of_payloadOf hpayload)
    obtain ⟨-, rfl⟩ | ⟨-, rfl⟩ | ⟨-, rfl⟩ := payloadOf_error_cases hpayload <;> simp [hidle, hport, hsent]
  | notConnected =>
    obtain rfl : ⟨⟨.connectFailed, false⟩, []⟩ = resp := by simpa using hresp
    simp [sentColumn, isInputError]
  | sendFailed f n hsend hready hframe =>
    obtain rfl : ⟨⟨.sendFailed, true⟩, []⟩ = resp := by simpa using hresp
    simp [sentColumn, isInputError, hframe]
  | receiveFailed =>
    obtain rfl : ⟨⟨.receiveFailed, true⟩, []⟩ = resp := by simpa using hresp
    simp [sentColumn, isInputError]
  | timedOut =>
    obtain rfl : ⟨⟨.timeout, true⟩, []⟩ = resp := by simpa using hresp
    simp [sentColumn, isInputError]

end Sys2Proof
end

section
/-! SUPPORT and the statements about frames as words (spec/30_encoding.md): a frame is a command byte and a payload assembled; `encode` and
`decodeFrame` are the two directions of that one relation; O17, O18, O12, O16, O1 and O19. -/

namespace Sys2Proof.Machine

/-! ### Reading the flags back (R77, R84) -/

/-- The part of a byte under a one-bit mask is the mask or nothing. -/
theorem and_bitMask (b : Byte) (k : Nat) : b &&& bitMask k = if b &&& bitMask k != 0#8 then bitMask k else 0#8 := by
  by_cases hbit : b.getLsbD k <;> simp [bitMask, BitVec.and_twoPow, hbit]

/-- Flags are read only from their own `flagsByte`: a byte with no bit outside the masks is the OR of its parts under them. -/
theorem flagsByte_of_readFlags {m : JogMasks} (h : m.admissible = true) {b : Byte} {fl : JogFlags}
    (hread : readFlags m b = some fl) : flagsByte m fl = b := by
  unfold readFlags at hread
  split at hread
  next hzero => cases hread; rw [flagsByte_none, hzero]
  next =>
    split at hread <;> cases hread
    next hmasks =>
      obtain ⟨p, q, r, -, -, -, -, -, -, rfl⟩ := m.admissible_iff.1 h
      simp only [flagsByte, ← and_bitMask, ← BitVec.and_or_distrib_left]
      calc b &&& (bitMask p ||| bitMask q ||| bitMask r)
          = b &&& (bitMask p ||| bitMask q ||| bitMask r) ||| b &&& ~~~(bitMask p ||| bitMask q ||| bitMask r) := by
            rw [hmasks, BitVec.or_zero]
        _ = b := by rw [← BitVec.and_or_distrib_left, BitVec.or_not_self, BitVec.and_allOnes]

theorem readFlags_eq_some_iff {m : JogMasks} (h : m.admissible = true) (b : Byte) (fl : JogFlags) :
    readFlags m b = some fl ↔ b = flagsByte m fl :=
  ⟨fun hread => (flagsByte_of_readFlags h hread).symm, fun hb => hb ▸ readFlags_flagsByte h fl⟩

/-! ### Which payload each argument has (R143, R145, R146) -/

/-- Two bytes are the encoding of an argument exactly when they decode to it (R124, R125). -/
theorem encodeSignedShort_toInt_eq_ok_iff (v : Arg) (lo hi : Byte) :
    encodeSignedShort v.toInt = .ok (lo, hi) ↔ v = (hi ++ lo).signExtend Config.ARG_W := by
  rw [← decPort_eq_signExtend, ← BitVec.toInt_inj, toInt_decPort]
  constructor
  · intro h
    exact (decodeSignedShort_of_encodeSignedShort h).symm
  · intro h
    rw [h]
    exact encodeSignedShort_decodeSignedShort lo hi

theorem coordinatePayload_eq_ok_iff (pan tilt : Arg) (p : Bytes) :
    coordinatePayload pan tilt = .ok p ↔
      ∃ pl ph tl th, p = [pl, ph, tl, th] ∧ encodeSignedShort pan.toInt = .ok (pl, ph) ∧
        encodeSignedShort tilt.toInt = .ok (tl, th) := by
  unfold coordinatePayload
  split
  next pl ph tl th hpan htilt =>
    simp only [hpan, htilt, Except.ok.injEq, Prod.mk.injEq]
    constructor
    · rintro rfl
      exact ⟨pl, ph, tl, th, rfl, ⟨rfl, rfl⟩, rfl, rfl⟩
    · rintro ⟨_, _, _, _, rfl, ⟨rfl, rfl⟩, rfl, rfl⟩
      rfl
  next hpan => simp [hpan]
  next htilt _ => simp [htilt]

/-- The index byte is the argument's low byte (R147). -/
theorem extractLsb'_of_presetByte {index : Arg} {b : Byte} (h : presetByte index = .ok b) : index.extractLsb' 0 8 = b := by
  unfold presetByte at h
  split at h <;> cases h
  rfl

/-- The index byte of an argument in range is its value (R78). -/
theorem presetByte_eq_ok_iff (index : Arg) (b : Byte) :
    presetByte index = .ok b ↔ b ≤ 0x1F#8 ∧ index = b.setWidth Config.ARG_W := by
  have hindex := BitVec.toInt_eq_toNat_cond index
  have hlt := index.isLt
  have hb := b.isLt
  unfold presetByte
  split <;>
    simp only [Except.ok.injEq, reduceCtorEq, false_iff, BitVec.le_def, ← BitVec.toNat_inj, BitVec.extractLsb'_toNat,
      BitVec.toNat_setWidth, BitVec.toNat_ofNat, Nat.shiftRight_zero, Config.PRESET_MIN, Config.PRESET_MAX,
      Config.ARG_W] at * <;>
    omega

theorem presetPayload_eq_ok_iff (index : Arg) (p : Bytes) :
    presetPayload index = .ok p ↔ ∃ b : Byte, p = [b] ∧ presetByte index = .ok b := by
  unfold presetPayload
  split
  next hindex => simp [hindex, eq_comm]
  next hindex => simp [hindex]

/-! ### A command as its command byte and its payload (R140) -/

theorem coordinatePayload_isOk_iff (pan tilt : Arg) :
    (∃ p, coordinatePayload pan tilt = .ok p) ↔ (inSignedShort pan.toInt && inSignedShort tilt.toInt) = true := by
  simp only [inSignedShort, Bool.and_eq_true, decide_eq_true_eq, Config.SS_MIN, Config.SS_MAX,
    ← encodeSignedShort_isOk_iff, coordinatePayload_eq_ok_iff]
  constructor
  · rintro ⟨_, _, _, _, _, -, hpan, htilt⟩
    exact ⟨⟨_, hpan⟩, ⟨_, htilt⟩⟩
  · rintro ⟨⟨⟨_, _⟩, hpan⟩, ⟨⟨_, _⟩, htilt⟩⟩
    exact ⟨_, _, _, _, _, rfl, hpan, htilt⟩

theorem presetPayload_isOk_iff (index : Arg) :
    (∃ p, presetPayload index = .ok p) ↔ inPreset index.toInt = true := by
  have hbyte : (∃ p, presetPayload index = .ok p) ↔ ∃ b, presetByte index = .ok b := by simp [presetPayload_eq_ok_iff]
  rw [hbyte, presetByte]
  simp only [inPreset, Bool.and_eq_true, decide_eq_true_eq, Config.PRESET_MIN, Config.PRESET_MAX]
  split
  next hout =>
    simp only [reduceCtorEq, exists_false, false_iff]
    omega
  next hin =>
    simp only [Except.ok.injEq, exists_eq', true_iff]
    omega

/-- A command has its payload exactly when it is well formed (R82). -/
theorem framePayload_isOk_iff (i : Instr) :
    (∃ p, i.framePayload = .ok p) ↔ i.isCommand = true ∧ i.wellFormed = true := by
  cases i with
  | moveToCoordinate pan tilt =>
    simpa [Instr.framePayload, Instr.isCommand, Instr.wellFormed] using coordinatePayload_isOk_iff pan tilt
  | retrievePreset index =>
    simpa [Instr.framePayload, Instr.isCommand, Instr.wellFormed] using presetPayload_isOk_iff index
  | savePreset index =>
    simpa [Instr.framePayload, Instr.isCommand, Instr.wellFormed] using presetPayload_isOk_iff index
  | _ => simp [Instr.framePayload, Instr.isCommand, Instr.wellFormed]

/-! ### The layouts of R74 -/

/-- The two bytes of a sign-extended pattern. -/
theorem extractLsb'_signExtend_append (lo hi : Byte) :
    ((hi ++ lo).signExtend Config.ARG_W).extractLsb' 0 8 = lo ∧ ((hi ++ lo).signExtend Config.ARG_W).extractLsb' 8 8 = hi := by
  constructor <;> apply BitVec.eq_of_getLsbD_eq <;> intro k hk
  · rw [BitVec.getLsbD_extractLsb', BitVec.getLsbD_signExtend, BitVec.getLsbD_append]
    simp [hk, show k < 32 by omega, show k < 16 by omega]
  · rw [BitVec.getLsbD_extractLsb', BitVec.getLsbD_signExtend, BitVec.getLsbD_append]
    simp [hk, show 8 + k < 32 by omega, show 8 + k < 16 by omega]

/-- The layout table's row is the payload assembled. -/
theorem encode_of_framePayload {i : Instr} {op : Byte} {p : Bytes} (hop : i.opByte = some op)
    (hpayload : i.framePayload = .ok p) : encode i = some (assemble op p) := by
  obtain ⟨-, hwf⟩ := (framePayload_isOk_iff i).1 ⟨p, hpayload⟩
  rw [encode.eq_def, if_pos hwf]
  cases i with
  | getStatusJogSpeed0 fl | getStatusJogSpeedN fl | moveToAbsoluteZero | moveToHome =>
    cases hop
    cases hpayload
    simp [assemble, padOf, jogPayload0, jogPayloadN, lrc, lrcAcc]
  | moveToCoordinate pan tilt =>
    cases hop
    obtain ⟨pl, ph, tl, th, rfl, hpan, htilt⟩ := (coordinatePayload_eq_ok_iff pan tilt p).1 hpayload
    obtain rfl := (encodeSignedShort_toInt_eq_ok_iff pan pl ph).1 hpan
    obtain rfl := (encodeSignedShort_toInt_eq_ok_iff tilt tl th).1 htilt
    simp [assemble, padOf, lrc, lrcAcc, extractLsb'_signExtend_append]
  | retrievePreset index | savePreset index =>
    cases hop
    obtain ⟨b, rfl, hb⟩ := (presetPayload_eq_ok_iff index p).1 hpayload
    simp [assemble, padOf, lrc, lrcAcc, extractLsb'_of_presetByte hb]
  | computeLRC | encodeSignedShort | decodeSignedShort => cases hop

/-- Only well-formed commands have a frame (R87). -/
theorem isCommand_of_encode {i : Instr} {f : Bytes} (h : encode i = some f) :
    i.isCommand = true ∧ i.wellFormed = true := by
  rw [encode.eq_def] at h
  split at h
  next hwf =>
    cases i with
    | computeLRC | encodeSignedShort | decodeSignedShort => cases h
    | _ => exact ⟨rfl, hwf⟩
  next => cases h

/-- The frame of an instruction is its payload assembled with its command byte. -/
theorem encode_eq_some_iff (i : Instr) (f : Bytes) :
    encode i = some f ↔ ∃ op p, i.opByte = some op ∧ i.framePayload = .ok p ∧ f = assemble op p := by
  constructor
  · intro h
    obtain ⟨hcommand, hwf⟩ := isCommand_of_encode h
    obtain ⟨op, hop⟩ := opByte_of_isCommand hcommand
    obtain ⟨p, hpayload⟩ := (framePayload_isOk_iff i).2 ⟨hcommand, hwf⟩
    exact ⟨op, p, hop, hpayload, Option.some.inj (h.symm.trans (encode_of_framePayload hop hpayload))⟩
  · rintro ⟨op, p, hop, hpayload, rfl⟩
    exact encode_of_framePayload hop hpayload

/-! ### The recogniser (R84) -/

/-- What follows the command byte `cmd` in the frame of `i`: the payload, its checksum and the end marker. -/
def HasBody (i : Instr) (cmd : Byte) (body : Bytes) : Prop :=
  ∃ p, i.opByte = some cmd ∧ i.framePayload = .ok p ∧ body = p ++ [lrc (cmd :: p), Config.ETX]

theorem checkEnd_eq_ok_iff (cmd : Byte) (payload : Bytes) (cks etx : Byte) (r : Except FrameError Instr) (i : Instr) :
    checkEnd cmd payload cks etx r = .ok i ↔ etx = Config.ETX ∧ cks = lrc (cmd :: payload) ∧ r = .ok i := by
  unfold checkEnd
  split_ifs <;> simp_all

theorem checkFlags_eq_ok_iff (f : Byte) (k : JogFlags → Instr) (i : Instr) :
    checkFlags f k = .ok i ↔ ∃ fl, f = flagsByte jogMasks fl ∧ i = k fl := by
  simp only [← readFlags_eq_some_iff jogMasks_admissible, checkFlags]
  cases readFlags jogMasks f <;> simp [eq_comm]

theorem decodeJog_eq_ok_iff (body : Bytes) (i : Instr) : decodeJog body = .ok i ↔ HasBody i Config.CMD_JOG body := by
  constructor
  · intro h
    unfold decodeJog at h
    split at h
    next f x0 x1 cks etx =>
      rw [checkEnd_eq_ok_iff] at h
      obtain ⟨rfl, rfl, h⟩ := h
      split at h
      next hzero =>
        obtain ⟨rfl, rfl⟩ := hzero
        obtain ⟨fl, rfl, rfl⟩ := (checkFlags_eq_ok_iff ..).1 h
        exact ⟨_, rfl, rfl, rfl⟩
      next => cases h
    next f p0 p1 x0 x1 cks etx =>
      rw [checkEnd_eq_ok_iff] at h
      obtain ⟨rfl, rfl, h⟩ := h
      split at h
      next hzero =>
        obtain ⟨rfl, rfl, rfl, rfl⟩ := hzero
        obtain ⟨fl, rfl, rfl⟩ := (checkFlags_eq_ok_iff ..).1 h
        exact ⟨_, rfl, rfl, rfl⟩
      next => cases h
    next => cases h
  · rintro ⟨p, hop, hpayload, rfl⟩
    cases i with
    | getStatusJogSpeed0 fl | getStatusJogSpeedN fl =>
      cases hpayload
      simp [jogPayload0, jogPayloadN, decodeJog, checkEnd_eq_ok_iff, checkFlags_eq_ok_iff]
    | _ => cases hop

/-- A command without payload, where `j` is the only instruction with its command byte. -/
theorem decodeEmpty_eq_ok_iff {cmd : Byte} {j : Instr} (hop : ∀ i : Instr, i.opByte = some cmd ↔ i = j)
    (hpayload : j.framePayload = .ok []) (body : Bytes) (i : Instr) :
    decodeEmpty cmd j body = .ok i ↔ HasBody i cmd body := by
  constructor
  · intro h
    unfold decodeEmpty at h
    split at h
    next cks etx =>
      rw [checkEnd_eq_ok_iff] at h
      obtain ⟨rfl, rfl, h⟩ := h
      cases h
      exact ⟨[], (hop j).2 rfl, hpayload, rfl⟩
    next => cases h
  · rintro ⟨p, hi, hp, rfl⟩
    obtain rfl := (hop i).1 hi
    cases hpayload.symm.trans hp
    simp [decodeEmpty, checkEnd_eq_ok_iff]

/-- A preset command, where `k` gives the instructions with its command byte. -/
theorem decodePreset_eq_ok_iff {cmd : Byte} {k : Arg → Instr}
    (hop : ∀ i : Instr, i.opByte = some cmd ↔ ∃ index, i = k index)
    (hpayload : ∀ index, (k index).framePayload = presetPayload index) (body : Bytes) (i : Instr) :
    decodePreset cmd k body = .ok i ↔ HasBody i cmd body := by
  constructor
  · intro h
    unfold decodePreset at h
    split at h
    next b cks etx =>
      rw [checkEnd_eq_ok_iff] at h
      obtain ⟨rfl, rfl, h⟩ := h
      split at h <;> cases h
      next hb =>
        refine ⟨[b], (hop _).2 ⟨_, rfl⟩, ?_, rfl⟩
        rw [hpayload]
        exact (presetPayload_eq_ok_iff ..).2 ⟨b, rfl, (presetByte_eq_ok_iff ..).2 ⟨hb, rfl⟩⟩
    next => cases h
  · rintro ⟨p, hi, hp, rfl⟩
    obtain ⟨index, rfl⟩ := (hop i).1 hi
    rw [hpayload] at hp
    obtain ⟨b, rfl, hbyte⟩ := (presetPayload_eq_ok_iff ..).1 hp
    obtain ⟨hb, rfl⟩ := (presetByte_eq_ok_iff ..).1 hbyte
    simp [decodePreset, checkEnd_eq_ok_iff, hb]

theorem decodeCoordinate_eq_ok_iff (body : Bytes) (i : Instr) :
    decodeCoordinate body = .ok i ↔ HasBody i Config.CMD_COORDINATE body := by
  constructor
  · intro h
    unfold decodeCoordinate at h
    split at h
    next pl ph tl th cks etx =>
      rw [checkEnd_eq_ok_iff] at h
      obtain ⟨rfl, rfl, h⟩ := h
      cases h
      refine ⟨[pl, ph, tl, th], rfl, (coordinatePayload_eq_ok_iff ..).2 ⟨pl, ph, tl, th, rfl, ?_, ?_⟩, rfl⟩
      · exact (encodeSignedShort_toInt_eq_ok_iff ..).2 rfl
      · exact (encodeSignedShort_toInt_eq_ok_iff ..).2 rfl
    next => cases h
  · rintro ⟨p, hop, hpayload, rfl⟩
    cases i with
    | moveToCoordinate pan tilt =>
      obtain ⟨pl, ph, tl, th, rfl, hpan, htilt⟩ := (coordinatePayload_eq_ok_iff ..).1 hpayload
      rw [encodeSignedShort_toInt_eq_ok_iff] at hpan htilt
      simp [decodeCoordinate, checkEnd_eq_ok_iff, hpan, htilt]
    | _ => cases hop

/-- The formats of the commands (R71): P for the first three command bytes, N for the other three. -/
theorem padOf_of_opByte {i : Instr} {op : Byte} (h : i.opByte = some op) :
    (padOf op = [Config.PAD] ∧ (op = Config.CMD_JOG ∨ op = Config.CMD_HOME ∨ op = Config.CMD_RETRIEVE)) ∨
    (padOf op = [] ∧ (op = Config.CMD_COORDINATE ∨ op = Config.CMD_ABSOLUTE_ZERO ∨ op = Config.CMD_SAVE)) := by
  cases i with
  | computeLRC | encodeSignedShort | decodeSignedShort => cases h
  | _ => cases h; decide

theorem opByte_ne_pad {i : Instr} {op : Byte} (h : i.opByte = some op) : op ≠ Config.PAD := by
  obtain ⟨-, rfl | rfl | rfl⟩ | ⟨-, rfl | rfl | rfl⟩ := padOf_of_opByte h <;> decide

/-- A frame of format P, from its command byte on. -/
theorem decodePadded_eq_ok_iff (cmd : Byte) (body : Bytes) (i : Instr) :
    decodePadded cmd body = .ok i ↔ padOf cmd = [Config.PAD] ∧ HasBody i cmd body := by
  unfold decodePadded
  split
  next hjog => subst hjog; simp [decodeJog_eq_ok_iff, padOf]
  next hjog =>
  split
  next hhome =>
    subst hhome
    have hop (i : Instr) : i.opByte = some Config.CMD_HOME ↔ i = .moveToHome := by cases i <;> simp [Instr.opByte]
    simp [decodeEmpty_eq_ok_iff hop rfl, padOf]
  next hhome =>
  split
  next hretrieve =>
    subst hretrieve
    have hop (i : Instr) : i.opByte = some Config.CMD_RETRIEVE ↔ ∃ index, i = .retrievePreset index := by
      cases i <;> simp [Instr.opByte]
    simp [decodePreset_eq_ok_iff hop (fun _ => rfl), padOf]
  next hretrieve => simp [padOf, hjog, hhome, hretrieve]

/-- A frame of format N, from its command byte on. -/
theorem decodePlain_eq_ok_iff (cmd : Byte) (body : Bytes) (i : Instr) :
    decodePlain cmd body = .ok i ↔ padOf cmd = [] ∧ HasBody i cmd body := by
  unfold decodePlain
  split
  next hcoordinate => subst hcoordinate; simp [decodeCoordinate_eq_ok_iff, padOf]
  next hcoordinate =>
  split
  next hzero =>
    subst hzero
    have hop (i : Instr) : i.opByte = some Config.CMD_ABSOLUTE_ZERO ↔ i = .moveToAbsoluteZero := by
      cases i <;> simp [Instr.opByte]
    simp [decodeEmpty_eq_ok_iff hop rfl, padOf]
  next hzero =>
  split
  next hsave =>
    subst hsave
    have hop (i : Instr) : i.opByte = some Config.CMD_SAVE ↔ ∃ index, i = .savePreset index := by
      cases i <;> simp [Instr.opByte]
    simp [decodePreset_eq_ok_iff hop (fun _ => rfl), padOf]
  next hsave =>
    simp only [reduceCtorEq, false_iff]
    rintro ⟨hpad, p, hop, -, -⟩
    obtain ⟨hpad', -⟩ | ⟨-, hcmd⟩ := padOf_of_opByte hop
    · cases hpad'.symm.trans hpad
    · simp [hcoordinate, hzero, hsave] at hcmd

/-- The recogniser accepts exactly the frames: a payload assembled with its command byte. -/
theorem decodeFrame_eq_ok_iff (f : Bytes) (i : Instr) :
    decodeFrame f = .ok i ↔ ∃ op p, i.opByte = some op ∧ i.framePayload = .ok p ∧ f = assemble op p := by
  constructor
  · intro h
    unfold decodeFrame at h
    split at h
    next stx b1 rest =>
      split at h
      next => cases h
      next hstx =>
      obtain rfl := not_not.1 hstx
      split at h
      next hpadded =>
        subst hpadded
        split at h
        next cmd body =>
          obtain ⟨hpad, p, hop, hpayload, rfl⟩ := (decodePadded_eq_ok_iff ..).1 h
          exact ⟨cmd, p, hop, hpayload, by simp [assemble, hpad]⟩
        next => cases h
      next =>
        obtain ⟨hpad, p, hop, hpayload, rfl⟩ := (decodePlain_eq_ok_iff ..).1 h
        exact ⟨b1, p, hop, hpayload, by simp [assemble, hpad]⟩
    next => cases h
  · rintro ⟨op, p, hop, hpayload, rfl⟩
    have hbody : HasBody i op (p ++ [lrc (op :: p), Config.ETX]) := ⟨p, hop, hpayload, rfl⟩
    obtain ⟨hpad, -⟩ | ⟨hpad, -⟩ := padOf_of_opByte hop
    · have hdecode := (decodePadded_eq_ok_iff op _ i).2 ⟨hpad, hbody⟩
      simpa [decodeFrame, assemble, hpad] using hdecode
    · have hdecode := (decodePlain_eq_ok_iff op _ i).2 ⟨hpad, hbody⟩
      simpa [decodeFrame, assemble, hpad, opByte_ne_pad hop] using hdecode

/-- Recognising and encoding are the two directions of one relation. -/
theorem decodeFrame_eq_ok_iff_encode (f : Bytes) (i : Instr) : decodeFrame f = .ok i ↔ encode i = some f :=
  (decodeFrame_eq_ok_iff f i).trans (encode_eq_some_iff i f).symm

end Sys2Proof.Machine

namespace Sys2Proof

open Machine

/-- Settles O17: a command and its payload give the frame, and the recogniser reads exactly the frames. -/
theorem decodeOfEncodeIsTheCommand : Obligations.DecodeOfEncodeIsTheCommand := by
  refine ⟨fun i hcommand hwf => ?frame, fun i f => (decodeFrame_eq_ok_iff_encode f i).2⟩
  case frame =>
    obtain ⟨op, hop⟩ := opByte_of_isCommand hcommand
    obtain ⟨p, hpayload⟩ := (framePayload_isOk_iff i).2 ⟨hcommand, hwf⟩
    exact ⟨_, encode_of_framePayload hop hpayload⟩

/-- Settles O18: what the recogniser reads is a frame, and only a well-formed command has one. -/
theorem recognisedFrameIsTheEncoding : Obligations.RecognisedFrameIsTheEncoding := by
  intro f i h
  have hencode := (decodeFrame_eq_ok_iff_encode f i).1 h
  obtain ⟨hcommand, hwf⟩ := isCommand_of_encode hencode
  exact ⟨hwf, hcommand, hencode⟩

/-- Settles O12: the layout and the general procedure assemble the same command byte and payload. -/
theorem builtFrameIsTheLayout : Obligations.BuiltFrameIsTheLayout := by
  intro r i hdecode hwf
  obtain ⟨hop, -⟩ := payloadOf_of_decodeRequest hdecode
  obtain ⟨p, hpayload⟩ := (framePayload_isOk_iff i).2 ⟨isCommand_of_decodeRequest hdecode, hwf⟩
  refine ⟨assemble r.op p, encode_of_framePayload hop hpayload, ?_⟩
  rw [buildFrame_of_decodeRequest hdecode, hpayload]
  rfl

/-- Settles O16, by command byte: the payload reads no operand the hypotheses leave free. -/
theorem ignoredOperandsNeverMatter : Obligations.IgnoredOperandsNeverMatter := by
  intro r r' hop hjog hcoordinate hpreset
  have hpayload : payloadOf r = payloadOf r' := by
    by_cases h31 : r.op = 0x31#8
    · obtain ⟨hfl, hspeed⟩ := hjog h31
      simp only [payloadOf, ← hop, h31, if_true, jogChecked_default, hfl, hspeed]
    by_cases h33 : r.op = 0x33#8
    · obtain ⟨ha0, ha1⟩ := hcoordinate h33
      rw [payloadOf_coordinate h33, payloadOf_coordinate (hop ▸ h33), ha0, ha1]
    by_cases hindex : r.op = 0x40#8 ∨ r.op = 0x42#8
    · rw [payloadOf_preset hindex, payloadOf_preset (hop ▸ hindex), hpreset hindex]
    by_cases hempty : r.op = 0x35#8 ∨ r.op = 0x36#8
    · rw [payloadOf_empty hempty, payloadOf_empty (hop ▸ hempty)]
    have hunlisted : r.op ∉ [0x31#8, 0x33#8, 0x35#8, 0x36#8, 0x40#8, 0x42#8] := by simp_all
    rw [payloadOf_unlisted hunlisted, payloadOf_unlisted (hop ▸ hunlisted)]
  rw [buildFrame, buildFrame, hpayload, hop]

/-- Settles O1: a frame's span begins with its command byte, whatever the payload. -/
theorem emptySpanHasChecksumZero : Obligations.EmptySpanHasChecksumZero := by
  refine ⟨rfl, nofun, fun r f h => ?span, fun _ => rfl⟩
  case span =>
    obtain ⟨p, hpayload, rfl⟩ := buildFrame_ok h
    rw [spanOf_assemble (op_ne_pad_of_payloadOf hpayload)]
    rfl

/-- Settles O19: the frames by the encodings they are, the others by running the recogniser. -/
theorem sampleFramesDecodeAsListed : Obligations.SampleFramesDecodeAsListed := by
  refine ⟨rfl, rfl, by decide, ?jog, by decide, by decide, by decide, by decide, by decide⟩
  case jog =>
    rw [decodeFrame_eq_ok_iff_encode]
    simp [encode, Instr.wellFormed]

end Sys2Proof
end

section
/-! SUPPORT and the statements about what every step keeps (spec/10_state.md, spec/20_memory.md, spec/43_transaction.md): a step is a unit's
or a host's act that leaves the transaction alone, a reset, or a step of the block; O10, O44 to O49. -/

namespace Sys2Proof.Machine

/-! ### What a use of a unit changes (R87) -/

/-- A use of a unit changes `ACC` or presents one result, and nothing else. -/
theorem exec_unit_cases {u : UnitRequest} {s t : State} (h : exec (decodeUnit u) s = .next t) :
    t = { s with acc := t.acc, accCleared := t.accCleared } ∨ ∃ r, t = s.present r := by
  cases u with
  | lrc x =>
    obtain ⟨_, -, rfl⟩ | ⟨-, rfl⟩ | ⟨_, _, -, rfl⟩ | ⟨_, -, rfl⟩ | ⟨_, -, rfl⟩ | ⟨-, rfl⟩ | ⟨-, rfl⟩ :=
      execComputeLRC_cases h
    · exact .inr ⟨_, rfl⟩
    · exact .inr ⟨_, rfl⟩
    · exact .inl rfl
    · exact .inl rfl
    · exact .inl rfl
    · exact .inr ⟨_, rfl⟩
    · exact .inr ⟨_, rfl⟩
  | encode v => exact .inr (execEncodeSignedShort_cases h)
  | decode lo hi => cases h; exact .inr ⟨_, rfl⟩

/-! ### A step is one of three kinds -/

/-- The states hold the same operands, phase and buffers: all that the state invariant reads. -/
structure SameBuffers (s t : State) : Prop where
  operands : t.operands = s.operands
  phase : t.phase = s.phase
  txbuf : t.txbuf = s.txbuf
  txlen : t.txlen = s.txlen
  rxbuf : t.rxbuf = s.rxbuf
  rxlen : t.rxlen = s.rxlen

/-- The channel's own bookkeeping of a send is no part of what the state invariant reads. -/
theorem sameBuffers_chSend (s : State) (frame reached : Bytes) (answer : SendResult) :
    SameBuffers s (s.chSend frame reached answer) := ⟨rfl, rfl, rfl, rfl, rfl, rfl⟩

theorem sameBuffers_received (s : State) (e : Event) : SameBuffers s (s.recvTaken.record e) := ⟨rfl, rfl, rfl, rfl, rfl, rfl⟩

/-- The states are at the same point of the same transactions: nothing between them but acts of the host and uses of the units. -/
structure SameTransaction (s t : State) : Prop extends SameBuffers s t where
  history : t.history = s.history
  responses : t.responses = s.responses

theorem SameTransaction.trans {s t u : State} (h : SameTransaction s t) (h' : SameTransaction t u) : SameTransaction s u :=
  ⟨⟨h'.operands.trans h.operands, h'.phase.trans h.phase, h'.txbuf.trans h.txbuf, h'.txlen.trans h.txlen,
    h'.rxbuf.trans h.rxbuf, h'.rxlen.trans h.rxlen⟩, h'.history.trans h.history, h'.responses.trans h.responses⟩

/-- The host's own registers, its port and its list are no part of a transaction. -/
theorem sameTransaction_of_hostSide (s : State) (port : Option Request) (host : List HostAction)
    (tmo : BitVec Config.TMO_W) (chReady : Bool) :
    SameTransaction s { s with port := port, host := host, tmo := tmo, chReady := chReady } :=
  ⟨⟨rfl, rfl, rfl, rfl, rfl, rfl⟩, rfl, rfl⟩

theorem sameTransaction_of_exec_unit {u : UnitRequest} {s t : State} (h : exec (decodeUnit u) s = .next t) :
    SameTransaction s t := by
  obtain ht | ⟨r, rfl⟩ := exec_unit_cases h
  · rw [ht]
    exact ⟨⟨rfl, rfl, rfl, rfl, rfl, rfl⟩, rfl, rfl⟩
  · exact ⟨⟨rfl, rfl, rfl, rfl, rfl, rfl⟩, rfl, rfl⟩

/-! The block's own move, by its phase, whatever the host has still to do. -/

theorem runMove_blockMove_of_no_request {s : State} (hidle : s.phase = .idle) (hport : s.port = none) :
    runMove (blockMove s) = .next s := by
  simp [blockMove, hidle, hport, runMove]

theorem runMove_blockMove_of_request {s : State} {r : Request} (hidle : s.phase = .idle) (hport : s.port = some r) :
    runMove (blockMove s) = beginTransaction r.op (payloadOf r) (s.accept r) := by
  cases hdecode : decodeRequest r with
  | none =>
    rw [payloadOf_of_decodeRequest_eq_none hdecode]
    simp [blockMove, hidle, hport, hdecode, runMove, beginTransaction]
  | some i =>
    obtain ⟨hop, hpayload⟩ := payloadOf_of_decodeRequest hdecode
    rw [hpayload, ← transact_idle (s := s.accept r) hidle, ← exec_command hop]
    simp [blockMove, hidle, hport, hdecode, runMove]

theorem runMove_blockMove_of_send {s : State} (hsend : s.phase = .send) : runMove (blockMove s) = sendStep s := by
  simp [blockMove, hsend, runMove]

theorem runMove_blockMove_of_wait {s : State} (hwait : s.phase = .wait) : runMove (blockMove s) = recvStep s := by
  simp [blockMove, hwait, runMove]

/-- Whatever the host has still to do, the block's own move is one of its steps. -/
theorem blockStep_of_runMove {s t : State} (h : runMove (blockMove s) = .next t) : BlockStep s t := by
  cases hphase : s.phase with
  | idle =>
    cases hport : s.port with
    | none =>
      rw [runMove_blockMove_of_no_request hphase hport] at h
      cases h
      exact .idled hphase hport
    | some r =>
      rw [runMove_blockMove_of_request hphase hport] at h
      obtain ⟨e, hpayload, rfl⟩ | ⟨p, hpayload, rfl⟩ := beginTransaction_cases h
      · exact .rejected r e hphase hport hpayload
      · exact .loaded r p hphase hport hpayload
  | send => exact blockStep_of_sendStep hphase (runMove_blockMove_of_send hphase ▸ h)
  | wait => exact blockStep_of_recvStep hphase (runMove_blockMove_of_wait hphase ▸ h)

/-- Every step leaves the transaction alone, resets it, or is a step of the block, up to what the host and the units change. -/
theorem step_next_cases {s t : State} (h : step s = .next t) :
    ∃ s', SameTransaction s s' ∧ (t = s' ∨ t = s'.assertReset ∨ BlockStep s' t) := by
  have hside := sameTransaction_of_hostSide s
  obtain hstep | ⟨later, -, hstep⟩ | ⟨r, later, -, -, hstep⟩ | ⟨u, later, -, hstep⟩ | ⟨v, later, -, hstep⟩ |
    ⟨b, later, -, hstep⟩ | ⟨later, -, hstep⟩ | ⟨later, -, hstep⟩ := step_cases s <;> rw [hstep] at h
  · exact ⟨s, hside .., .inr (.inr (blockStep_of_runMove h))⟩
  · exact ⟨_, hside .., .inr (.inr (blockStep_of_runMove h))⟩
  · cases h
    exact ⟨_, hside .., .inl rfl⟩
  · exact ⟨t, (hside ..).trans (sameTransaction_of_exec_unit h), .inl rfl⟩
  · cases h
    exact ⟨_, hside .., .inl rfl⟩
  · cases h
    exact ⟨_, hside .., .inl rfl⟩
  · cases h
    exact ⟨_, hside .., .inl rfl⟩
  · cases h
    exact ⟨_, hside .., .inr (.inl rfl)⟩

/-- A property of the transaction that holds after a reset and that every step of the block keeps is kept by every step. -/
theorem step_keeps {P : State → Prop} (hside : ∀ s t, SameTransaction s t → P s → P t)
    (hreset : ∀ s, P s → P s.assertReset) (hblock : ∀ s t, P s → BlockStep s t → P t) {s t : State} (hs : P s)
    (h : step s = .next t) : P t := by
  obtain ⟨s', hsame, rfl | rfl | hstep⟩ := step_next_cases h
  · exact hside s t hsame hs
  · exact hreset s' (hside s s' hsame hs)
  · exact hblock s' t (hside s s' hsame hs) hstep

theorem buildFrame_of_payloadOf {r : Request} {p : Bytes} (h : payloadOf r = .ok p) : buildFrame r = .ok (assemble r.op p) := by
  simp [buildFrame, h]

end Sys2Proof.Machine

namespace Sys2Proof

open Machine

/-! ### The state invariant (R37) -/

theorem StateInv.congr {s t : State} (hsame : SameBuffers s t) (h : StateInv s) : StateInv t := by
  obtain ⟨hoperands, hphase, htxbuf, htxlen, hrxbuf, hrxlen⟩ := hsame
  have hframe : t.txFrame = s.txFrame := by simp only [State.txFrame, htxbuf, htxlen]
  exact
    { txWf := htxbuf ▸ h.txWf
      rxWf := hrxbuf ▸ h.rxWf
      txWithin := htxbuf ▸ h.txWithin
      rxWithin := hrxbuf ▸ h.rxWithin
      idleEmpty := by rw [hphase, htxlen, htxbuf]; exact h.idleEmpty
      busyFrame := by rw [hphase, hoperands, hframe, htxlen]; exact h.busyFrame
      rxLen := hrxlen ▸ h.rxLen
      rxValid := by rw [hrxbuf, hrxlen]; exact h.rxValid }

/-- In `IDLE` the invariant speaks of the receive buffer alone. -/
theorem stateInv_of_idle {t : State} (hphase : t.phase = .idle) (htxbuf : t.txbuf = []) (htxlen : t.txlen = 0)
    (rxWf : Memory.wf t.rxbuf) (rxWithin : bufferWithin t.rxbuf Config.RX_MAX) (rxLen : t.rxlen ≤ Config.RX_MAX)
    (rxValid : ∃ bs, Memory.readBytes t.rxbuf 0 t.rxlen = some bs) : StateInv t where
  txWf := htxbuf ▸ List.Pairwise.nil
  rxWf := rxWf
  txWithin := by simp [bufferWithin, htxbuf]
  rxWithin := rxWithin
  idleEmpty _ := ⟨htxlen, htxbuf⟩
  busyFrame hbusy := absurd hphase hbusy
  rxLen := rxLen
  rxValid := rxValid

theorem stateInv_of_reset_buffers {t : State} (hphase : t.phase = .idle) (htxbuf : t.txbuf = []) (htxlen : t.txlen = 0)
    (hrxbuf : t.rxbuf = []) (hrxlen : t.rxlen = 0) : StateInv t :=
  stateInv_of_idle hphase htxbuf htxlen (hrxbuf ▸ List.Pairwise.nil) (by simp [bufferWithin, hrxbuf]) (by simp [hrxlen])
    ⟨[], by rw [hrxlen]; rfl⟩

/-- A transaction aborted leaves the receive buffer's bytes and no reply (R212). -/
theorem StateInv.abort {s : State} (h : StateInv s) (e : ErrCode) (sent : Bool) : StateInv (s.abort e sent) :=
  stateInv_of_idle rfl rfl rfl h.rxWf h.rxWithin (Nat.zero_le _) ⟨[], rfl⟩

theorem bufferWithin_writeBytes {m : Memory} {size : Nat} {bs : Bytes} (h : bufferWithin m size) (hlen : bs.length ≤ size) :
    bufferWithin (Memory.writeBytes m 0 bs) size := by
  intro c hc
  obtain ⟨-, hlt⟩ | hold := Memory.mem_writeBytes hc
  · omega
  · exact h c hold

theorem StateInv.complete {s : State} (h : StateInv s) {bytes : Bytes} (hlen : bytes.length ≤ Config.RX_MAX) :
    StateInv (s.complete bytes) :=
  stateInv_of_idle rfl rfl rfl (Memory.wf_writeBytes h.rxWf 0 bytes) (bufferWithin_writeBytes h.rxWithin hlen) hlen
    ⟨bytes, s.readBytes_complete bytes⟩

/-- A frame of the operand registers enters `TXBUF` (R37 (b)). -/
theorem StateInv.loadFrame {s : State} (h : StateInv s) {f : Bytes} (hframe : buildFrame s.operands = .ok f) (c : Byte) :
    StateInv (s.loadFrame f c) := by
  obtain ⟨-, -, hlen, -⟩ := frameLengthsByCommand _ f hframe
  exact
    { txWf := Memory.wf_writeBytes h.txWf 0 f
      rxWf := h.rxWf
      txWithin := bufferWithin_writeBytes h.txWithin hlen
      rxWithin := h.rxWithin
      idleEmpty := nofun
      busyFrame := fun _ => ⟨f, hframe, s.txFrame_loadFrame c hlen, rfl⟩
      rxLen := h.rxLen
      rxValid := h.rxValid }

theorem stateInv_of_blockStep {s t : State} (h : StateInv s) (hstep : BlockStep s t) : StateInv t := by
  cases hstep with
  | idled => exact h
  | loaded r p hidle hport hpayload =>
    obtain ⟨htxlen, htxbuf⟩ := h.idleEmpty hidle
    have haccept : StateInv (s.accept r) :=
      stateInv_of_idle hidle htxbuf htxlen h.rxWf h.rxWithin h.rxLen h.rxValid
    exact haccept.loadFrame (buildFrame_of_payloadOf hpayload) _
  | rejected r e hidle =>
    obtain ⟨-, htxbuf⟩ := h.idleEmpty hidle
    exact stateInv_of_idle rfl htxbuf rfl h.rxWf h.rxWithin (Nat.zero_le _) ⟨[], rfl⟩
  | notConnected => exact h.abort _ _
  | sent f hsend =>
    exact
      { txWf := h.txWf
        rxWf := h.rxWf
        txWithin := h.txWithin
        rxWithin := h.rxWithin
        idleEmpty := nofun
        busyFrame := fun _ => h.busyFrame (by simp [hsend])
        rxLen := h.rxLen
        rxValid := h.rxValid }
  | sendFailed => exact (h.congr (sameBuffers_chSend s ..)).abort _ _
  | replied bytes hwait hanswer => exact (h.congr (sameBuffers_received s _)).complete (State.length_recvAnswer hanswer)
  | receiveFailed | timedOut => exact (h.congr (sameBuffers_received s _)).abort _ _

/-! ### The history (R60, R61) -/

/-- A history is read event by event. -/
theorem historyScan_append {o o' : Option Bytes} {h : List Event} (hscan : historyScan o h = some o') (e : Event) :
    historyScan o (h ++ [e]) = historyScan o' [e] := by
  fun_induction historyScan o h with
  | case1 o => cases hscan; rfl
  | case2 f h ih => exact ih hscan
  | case3 f h ih => exact ih hscan
  | case4 => cases hscan
  | case5 f a h ih => exact ih hscan
  | case6 => cases hscan

theorem HistoryInv.congr {s t : State} (hsame : SameBuffers s t) (hhistory : t.history = s.history) (h : HistoryInv s) :
    HistoryInv t := by
  have hframe : t.txFrame = s.txFrame := by simp only [State.txFrame, hsame.txbuf, hsame.txlen]
  exact
    { closed := by rw [hsame.phase, hhistory]; exact h.closed
      opened := by rw [hsame.phase, hhistory, hframe]; exact h.opened
      frames := hhistory ▸ h.frames }

/-- Outside `WAIT` the history is complete groups of frames the framer built. -/
theorem historyInv_of_closed {t : State} (hphase : t.phase ≠ .wait) (hscan : historyScan none t.history = some none)
    (frames : ∀ f a, Event.send f a ∈ t.history → IsFrame f) : HistoryInv t :=
  ⟨fun _ => hscan, fun hwait => absurd hwait hphase, frames⟩

/-- A receive closes the group that `WAIT` has open, whatever its answer. -/
theorem HistoryInv.recv {s t : State} (h : HistoryInv s) (hwait : s.phase = .wait) (hidle : t.phase = .idle) {a : RecvAnswer}
    (hhistory : t.history = s.history ++ [Event.recv a]) : HistoryInv t := by
  obtain ⟨f, -, hopen⟩ := h.opened hwait
  refine historyInv_of_closed (by simp [hidle]) ?scan fun g b hmem => h.frames g b ?old
  case scan => rw [hhistory, historyScan_append hopen]; rfl
  case old => simpa [hhistory] using hmem

/-- One more send of a frame the framer built. -/
theorem HistoryInv.frames_send {s : State} (h : HistoryInv s) {f : Bytes} (hf : IsFrame f) (b : SendResult) :
    ∀ g a, Event.send g a ∈ s.history ++ [Event.send f b] → IsFrame g := by
  intro g a hmem
  rw [List.mem_append, List.mem_singleton] at hmem
  obtain hold | hnew := hmem
  · exact h.frames g a hold
  · cases hnew
    exact hf

/-- What the send step hands to the channel is a frame the framer built (R188). -/
theorem StateInv.isFrame_of_txFrame {s : State} (h : StateInv s) (hsend : s.phase = .send) {f : Bytes}
    (hframe : s.txFrame = some f) : IsFrame f := by
  obtain ⟨g, hbuild, hg, -⟩ := h.busyFrame (by simp [hsend])
  cases hg.symm.trans hframe
  exact ⟨_, hbuild⟩

theorem historyInv_of_blockStep {s t : State} (hs : StateInv s) (h : HistoryInv s) (hstep : BlockStep s t) : HistoryInv t := by
  cases hstep with
  | idled => exact h
  | loaded r p hidle | rejected r e hidle | notConnected hidle =>
    exact historyInv_of_closed (by simp) (h.closed (by simp [hidle])) h.frames
  | sent f hsend _ hframe =>
    have hclosed := h.closed (by simp [hsend])
    refine ⟨fun hnot => absurd rfl hnot, fun _ => ⟨f, hframe, ?_⟩, h.frames_send (hs.isFrame_of_txFrame hsend hframe) _⟩
    exact historyScan_append hclosed _
  | sendFailed f n hsend _ hframe =>
    have hclosed := h.closed (by simp [hsend])
    exact historyInv_of_closed (by simp) (historyScan_append hclosed _) (h.frames_send (hs.isFrame_of_txFrame hsend hframe) _)
  | replied bytes hwait | receiveFailed hwait | timedOut hwait => exact h.recv hwait rfl rfl

/-! ### The responses (R186, R200) -/

/-- A step of the block presents nothing, or one good response, which is what `STATUS` then holds. -/
theorem response_of_blockStep {s t : State} (hstep : BlockStep s t) :
    t.responses = s.responses ∨
      ∃ resp, t.responses = s.responses ++ [resp] ∧ t.status = resp.status ∧ ResponseOk resp := by
  cases hstep with
  | idled | loaded | sent => exact .inl rfl
  | rejected r e _ _ hpayload =>
    refine .inr ⟨⟨⟨e, false⟩, []⟩, rfl, rfl, ?_⟩
    obtain ⟨-, rfl⟩ | ⟨-, rfl⟩ | ⟨-, rfl⟩ := payloadOf_error_cases hpayload <;> simp [ResponseOk, sentColumn]
  | replied bytes _ hanswer =>
    refine .inr ⟨⟨⟨.ok, true⟩, bytes⟩, rfl, rfl, ?_⟩
    simpa [ResponseOk, sentColumn] using State.length_recvAnswer hanswer
  | notConnected | sendFailed | receiveFailed | timedOut =>
    refine .inr ⟨⟨⟨_, _⟩, []⟩, rfl, rfl, ?_⟩
    simp [ResponseOk, sentColumn]

theorem responsesInv_of_blockStep {s t : State} (h : ResponsesInv s) (hstep : BlockStep s t) : ResponsesInv t := by
  obtain hsame | ⟨resp, hmore, -, hgood⟩ := response_of_blockStep hstep
  · rwa [ResponsesInv, hsame]
  · intro r hr
    rw [hmore, List.mem_append, List.mem_singleton] at hr
    obtain hold | rfl := hr
    · exact h r hold
    · exact hgood

/-! ### The obligations -/

/-- Settles O45: every buffer is empty after reset. -/
theorem resetHasStateInvariant : Obligations.ResetHasStateInvariant :=
  stateInv_of_reset_buffers rfl rfl rfl rfl rfl

/-- Settles O44: the invariant reads only what the host and the units leave alone, holds after a reset, and is kept by each step of
the block. -/
theorem stepKeepsStateInvariant : Obligations.StepKeepsStateInvariant := fun _ _ =>
  step_keeps (fun _ _ hsame h => h.congr hsame.toSameBuffers) (fun _ _ => stateInv_of_reset_buffers rfl rfl rfl rfl rfl)
    (fun _ _ => stateInv_of_blockStep)

/-- Settles O47: no event has happened. -/
theorem resetHasGroupedHistory : Obligations.ResetHasGroupedHistory :=
  historyInv_of_closed nofun rfl nofun

/-- Settles O46: the two invariants are kept together, since a frame that is sent is in `TXBUF` before. -/
theorem stepKeepsHistoryGrouped : Obligations.StepKeepsHistoryGrouped := by
  intro s t hs hh hstep
  have hboth : StateInv t ∧ HistoryInv t :=
    step_keeps (P := fun s => StateInv s ∧ HistoryInv s)
      (fun _ _ hsame ⟨hs, hh⟩ => ⟨hs.congr hsame.toSameBuffers, hh.congr hsame.toSameBuffers hsame.history⟩)
      (fun _ _ => ⟨stateInv_of_reset_buffers rfl rfl rfl rfl rfl, historyInv_of_closed nofun rfl nofun⟩)
      (fun _ _ ⟨hs, hh⟩ hstep => ⟨stateInv_of_blockStep hs hstep, historyInv_of_blockStep hs hh hstep⟩)
      ⟨hs, hh⟩ hstep
  exact hboth.2

/-- Settles O49: the list is empty. -/
theorem resetHasGoodResponses : Obligations.ResetHasGoodResponses := ⟨rfl, nofun⟩

/-- Settles O48: the responses stay listed, and a step of the block adds at most one, a good one. -/
theorem stepKeepsResponsesGood : Obligations.StepKeepsResponsesGood := fun _ _ =>
  step_keeps (fun _ _ hsame h => by rwa [ResponsesInv, hsame.responses]) (fun _ h => h)
    (fun _ _ => responsesInv_of_blockStep)

/-- Settles O10: a use of a unit writes `ACC` or presents one result. -/
theorem unitsLeaveTransactionsAlone : Obligations.UnitsLeaveTransactionsAlone := by
  intro u s t h
  obtain ht | ⟨r, rfl⟩ := exec_unit_cases h
  · rw [ht]
    exact ⟨rfl, ⟨[], List.append_nil _⟩, Nat.le_succ _⟩
  · exact ⟨rfl, ⟨[r], rfl⟩, by simp⟩

end Sys2Proof
end

section
/-! SUPPORT and the statements about one step of the block (spec/20_memory.md, spec/43_transaction.md): what it leaves alone, by phase;
O30 to O34. -/

namespace Sys2Proof.Machine

/-- A sequence stored from index 0 leaves every index at and beyond its length. -/
theorem Memory.read_writeBytes_beyond (m : Memory) (bs : Bytes) {a : Nat} (h : bs.length ≤ a) :
    Memory.read (Memory.writeBytes m 0 bs) a = Memory.read m a := by
  rw [Memory.read_writeBytes, if_neg (by omega)]

/-- While a request waits on the port, a host act that would present one more waits too, and the step is the block's (R171). -/
theorem step_of_waiting_present {s : State} {q r : Request} {later : List HostAction} (hport : s.port = some q)
    (hhost : s.host = .present r :: later) : step s = runMove (blockMove s) := by
  simp only [step, nextMove, hhost, hostWaits, hport, Option.isSome_some, if_true]
  cases blockMove s <;> rfl

/-- The block never touches the host's list of acts, `TMO` or `CH.ready` (R28, R31). -/
theorem BlockStep.hostSide {s t : State} (h : BlockStep s t) :
    t.host = s.host ∧ t.tmo = s.tmo ∧ t.chReady = s.chReady := by
  cases h <;> simp

/-- A busy block keeps the request it serves, and the one that waits (R171). -/
theorem BlockStep.busy {s t : State} (h : BlockStep s t) (hbusy : s.phase ≠ .idle) :
    t.port = s.port ∧ t.operands = s.operands := by
  cases h with
  | idled hidle | loaded _ _ hidle | rejected _ _ hidle => exact absurd hidle hbusy
  | _ => simp

end Sys2Proof.Machine

namespace Sys2Proof

open Machine

/-- Settles O30: with or without a waiting act of the host, the step is one of a busy block. -/
theorem busyBlockAcceptsNothing : Obligations.BusyBlockAcceptsNothing := by
  intro s t hbusy
  refine ⟨fun hhost hstep => (blockStep_of_step hhost hstep).busy hbusy, fun q r later hport hhost hstep => ?waiting⟩
  case waiting =>
    rw [step_of_waiting_present hport hhost] at hstep
    have hblock := blockStep_of_runMove hstep
    obtain ⟨hkept, hoperands⟩ := hblock.busy hbusy
    obtain ⟨hlist, -, -⟩ := hblock.hostSide
    exact ⟨hkept.trans hport, hoperands, hlist⟩

/-- Settles O31: only the two steps that serve a request load the operand registers, and from the port. -/
theorem blockNeverWritesHostRegisters : Obligations.BlockNeverWritesHostRegisters := by
  intro s t hhost hstep
  have hblock := blockStep_of_step hhost hstep
  obtain ⟨-, htmo, hready⟩ := hblock.hostSide
  refine ⟨htmo, hready, ?_⟩
  cases hblock with
  | loaded r p hidle hport | rejected r e hidle hport => exact .inr ⟨hidle, hport, rfl⟩
  | _ => simp

/-- Settles O32, by the steps of the block in each phase. -/
theorem historyGrowsByTheStepOfItsPhase : Obligations.HistoryGrowsByTheStepOfItsPhase := by
  intro s t hhost hstep
  cases blockStep_of_step hhost hstep with
  | idled hidle | loaded _ _ hidle | rejected _ _ hidle => simp [hidle]
  | notConnected hsend hready => simp [hsend, hready]
  | sent f hsend hready hframe | sendFailed f n hsend hready hframe => simp [hsend, hready, hframe]
  | replied _ hwait | receiveFailed hwait | timedOut hwait => simp [hwait]

/-- Settles O33, by the steps of the block: only `loaded` stores into `TXBUF` and only `replied` into `RXBUF`, each from index 0 and up
to the new length; the endings of a busy block empty `TXBUF`. -/
theorem buffersChangeOnlyByTheirRules : Obligations.BuffersChangeOnlyByTheirRules := by
  intro s t a hhost hstep
  cases blockStep_of_step hhost hstep with
  | idled hidle => simp [hidle]
  | rejected r e hidle => simp [hidle]
  | loaded r p hidle =>
    have hbeyond := Memory.read_writeBytes_beyond s.txbuf (assemble r.op p) (a := a)
    simpa [hidle] using hbeyond
  | notConnected hsend => simp [hsend, Memory.read]
  | sent f hsend => simp [hsend]
  | sendFailed f n hsend => simp [hsend, Memory.read]
  | replied bytes hwait =>
    have hbeyond := Memory.read_writeBytes_beyond s.rxbuf bytes (a := a)
    simpa [hwait, Memory.read] using hbeyond
  | receiveFailed hwait | timedOut hwait => simp [hwait, Memory.read]

/-- Settles O34: only the two steps that send put bytes on the wire. -/
theorem wireCarriesFramesOrPrefixes : Obligations.WireCarriesFramesOrPrefixes := by
  intro s t hhost hstep
  cases blockStep_of_step hhost hstep with
  | idled | loaded | rejected | notConnected => exact .inl (by simp)
  | sent f _ _ hframe => exact .inr (.inr (.inl ⟨f, hframe, by simp⟩))
  | sendFailed f n _ _ hframe =>
    exact .inr (.inr (.inr ⟨f, f.take n, hframe, ⟨f.drop n, List.take_append_drop n f⟩, by simp⟩))
  | replied | receiveFailed | timedOut => exact .inr (.inl (by simp))

end Sys2Proof
end

section
/-! SUPPORT and the statements about a transaction (spec/43_transaction.md): a command from `IDLE`, the receive on any answer, and the three
steps together; O22, O23, O26, O28, O29, O35, O36 and O50. -/

namespace Sys2Proof.Machine

/-! ### A command in `IDLE` (R172) -/

/-- A command with a payload loads its frame. -/
theorem exec_of_payload {i : Instr} {op : Byte} {p : Bytes} {s : State} (hop : i.opByte = some op)
    (hpayload : i.framePayload = .ok p) (hidle : s.phase = .idle) :
    exec i s = .next (s.loadFrame (assemble op p) (lrc (op :: p))) := by
  rw [exec_command hop, transact_idle hidle, hpayload]
  rfl

/-- A command without a payload ends with its argument's error. -/
theorem exec_of_payload_error {i : Instr} {op : Byte} {e : ErrCode} {s : State} (hop : i.opByte = some op)
    (hpayload : i.framePayload = .error e) (hidle : s.phase = .idle) : exec i s = .next (s.takeError e false) := by
  rw [exec_command hop, transact_idle hidle, hpayload]
  rfl

theorem coordinatePayload_of_not_inSignedShort {pan tilt : Arg}
    (h : (inSignedShort pan.toInt && inSignedShort tilt.toInt) = false) :
    coordinatePayload pan tilt = .error .outOfRange := by
  cases hpayload : coordinatePayload pan tilt with
  | ok p => simp [(coordinatePayload_isOk_iff pan tilt).1 ⟨p, hpayload⟩] at h
  | error e => rw [coordinatePayload_error hpayload]

theorem presetPayload_of_not_inPreset {index : Arg} (h : inPreset index.toInt = false) :
    presetPayload index = .error .presetOutOfRange := by
  cases hpayload : presetPayload index with
  | ok p => simp [(presetPayload_isOk_iff index).1 ⟨p, hpayload⟩] at h
  | error e => rw [presetPayload_error hpayload]

/-! ### The sends that have no step (R24, R189) -/

theorem sendStep_of_no_value {s : State} (hready : s.chReady = true) (hframe : s.txFrame = none) :
    sendStep s = .fault .txbufNoValue := by
  simp [sendStep, hready, hframe]

theorem sendStep_of_unanswered {s : State} {f : Bytes} (hready : s.chReady = true) (hframe : s.txFrame = some f)
    (hanswers : s.sendAnswers = []) : sendStep s = .fault .sendUnanswered := by
  simp [sendStep, hready, hframe, hanswers]

/-! ### The receive, on a listed or a free answer (R175 to R177) -/

theorem recvStep_of_reply {s : State} {bytes : Bytes} (h : s.recvAnswer = .ok bytes) :
    recvStep s = .next ((s.recvTaken.record (.recv (.ok bytes))).complete bytes) := by
  rw [recvStep, h, State.takeReply_default]

theorem recvStep_of_receiveFailed {s : State} (h : s.recvAnswer = .receiveFailed) :
    recvStep s = .next ((s.recvTaken.record (.recv .receiveFailed)).abort .receiveFailed true) := by
  rw [recvStep, h, State.takeReply_default]

theorem recvStep_of_timeout {s : State} (h : s.recvAnswer = .timeout) :
    recvStep s = .next ((s.recvTaken.record (.recv .timeout)).abort .timeout true) := by
  rw [recvStep, h, State.takeReply_default]

/-- A listed reply that needs no cut is taken off the list and completes the transaction. -/
theorem recvStep_of_listed_reply {s : State} {bytes : Bytes} {later : List RecvAnswer} (h : s.recvAnswers = .ok bytes :: later)
    (hlength : bytes.length ≤ Config.RX_MAX) :
    recvStep s = .next (({ s with recvAnswers := later }.record (.recv (.ok bytes))).complete bytes) := by
  rw [recvStep_of_cons h (cutReply_ok_of_length_le hlength), State.takeReply_default]

/-! ### Several steps -/

theorem run_succ_of_step {M : Host.Core} {s t : M.State} (h : M.step s = .next t) (k : Nat) : M.run (k + 1) s = M.run k t := by
  simp [Host.Core.run, h]

end Sys2Proof.Machine

namespace Sys2Proof

open Machine

/-! ### A request and its answer (R189) -/

/-- `t` ends the transaction of `r` that `s` had on its port: idle again, one good response more, and in the history what the transaction
did to the channel. -/
structure Answered (s : State) (r : Request) (t : State) : Prop where
  phase : t.phase = .idle
  port : t.port = none
  operands : t.operands = r
  response : ∃ resp, t.responses = s.responses ++ [resp] ∧ t.status = resp.status ∧ ResponseOk resp
  history : t.history = s.history ∨ ∃ f : Bytes, buildFrame r = .ok f ∧
    (t.history = s.history ++ [Event.send f .sendFailed] ∨
      ∃ a : RecvAnswer, t.history = s.history ++ [Event.send f .ok, Event.recv a])

/-- A step of the block that presents a response presents one good one. -/
theorem response_of_ending {s t : State} (hstep : BlockStep s t) (hmore : t.responses ≠ s.responses) :
    ∃ resp, t.responses = s.responses ++ [resp] ∧ t.status = resp.status ∧ ResponseOk resp :=
  (response_of_blockStep hstep).resolve_left hmore

/-- The receive ends the transaction. -/
theorem step_wait_answers {s : State} (hhost : s.host = []) (hwait : s.phase = .wait) :
    ∃ (t : State) (a : RecvAnswer), step s = .next t ∧ t.phase = .idle ∧ t.responses ≠ s.responses ∧
      t.history = s.history ++ [Event.recv a] := by
  rw [step_of_wait hhost hwait]
  cases hanswer : s.recvAnswer with
  | ok bytes => exact ⟨_, _, recvStep_of_reply hanswer, rfl, by simp, rfl⟩
  | receiveFailed => exact ⟨_, _, recvStep_of_receiveFailed hanswer, rfl, by simp, rfl⟩
  | timeout => exact ⟨_, _, recvStep_of_timeout hanswer, rfl, by simp, rfl⟩

/-- A send that is answered ends the transaction, or goes on to the receive. -/
theorem step_send_answers {s : State} {f : Bytes} (hhost : s.host = []) (hsend : s.phase = .send) (hframe : s.txFrame = some f)
    (hanswers : s.sendAnswers ≠ []) :
    ∃ t : State, step s = .next t ∧
      ((t.phase = .idle ∧ t.responses ≠ s.responses ∧
        (t.history = s.history ∨ t.history = s.history ++ [Event.send f .sendFailed])) ∨
      (t.phase = .wait ∧ t.responses = s.responses ∧ t.history = s.history ++ [Event.send f .ok])) := by
  rw [step_of_send hhost hsend]
  cases hready : s.chReady with
  | false => exact ⟨_, sendStep_of_not_ready hready, .inl ⟨rfl, by simp, .inl rfl⟩⟩
  | true =>
    obtain ⟨answer, later, hcons⟩ := List.exists_cons_of_ne_nil hanswers
    cases answer with
    | ok => exact ⟨_, sendStep_of_ok hready hframe hcons, .inr ⟨rfl, rfl, rfl⟩⟩
    | failed n => exact ⟨_, sendStep_of_failed hready hframe hcons, .inl ⟨rfl, by simp, .inr rfl⟩⟩

/-- From `SEND`, two steps at most answer the request whose frame is in `TXBUF`. -/
theorem answered_of_send {s : State} {r : Request} {f : Bytes} (hhost : s.host = []) (hsend : s.phase = .send)
    (hframe : s.txFrame = some f) (hanswers : s.sendAnswers ≠ []) (hport : s.port = none) (hoperands : s.operands = r)
    (hbuild : buildFrame r = .ok f) :
    ∃ k t, k ≤ 2 ∧ Host.Core.run Sys2Proof.core k s = .next t ∧ Answered s r t := by
  obtain ⟨t, hstep, hends⟩ := step_send_answers hhost hsend hframe hanswers
  have hblock := blockStep_of_step hhost hstep
  obtain ⟨hport1, hoperands1⟩ := hblock.busy (by simp [hsend])
  obtain ⟨hidle, hmore, hhistory⟩ | ⟨hwait, hresponses1, hhistory1⟩ := hends
  · refine ⟨1, t, by decide, run_succ_of_step hstep 0, hidle, hport1.trans hport, hoperands1.trans hoperands,
      response_of_ending hblock hmore, ?_⟩
    exact hhistory.imp_right fun hfailed => ⟨f, hbuild, .inl hfailed⟩
  · obtain ⟨hlist, -, -⟩ := hblock.hostSide
    have hhost1 : t.host = [] := hlist.trans hhost
    obtain ⟨u, a, hstep2, hidle, hmore, hhistory2⟩ := step_wait_answers hhost1 hwait
    have hblock2 := blockStep_of_step hhost1 hstep2
    obtain ⟨hport2, hoperands2⟩ := hblock2.busy (by simp [hwait])
    refine ⟨2, u, by decide, (run_succ_of_step hstep 1).trans (run_succ_of_step hstep2 0), hidle,
      hport2.trans (hport1.trans hport), hoperands2.trans (hoperands1.trans hoperands), ?_, .inr ⟨f, hbuild, .inr ⟨a, ?_⟩⟩⟩
    · exact hresponses1 ▸ response_of_ending hblock2 hmore
    · simp [hhistory2, hhistory1]

/-! ### The obligations -/

/-- Settles O22: the frame is assembled and loaded, and the send step reads what was loaded. -/
theorem wellFormedCommandLoadsItsFrame : Obligations.WellFormedCommandLoadsItsFrame := by
  intro i s hcommand hwf hidle
  obtain ⟨op, hop⟩ := opByte_of_isCommand hcommand
  obtain ⟨p, hpayload⟩ := (framePayload_isOk_iff i).2 ⟨hcommand, hwf⟩
  refine ⟨_, _, encode_of_framePayload hop hpayload, exec_of_payload hop hpayload hidle, ?state,
    s.txFrame_loadFrame _ (length_assemble_framePayload hpayload), fun a => Memory.read_writeBytes_beyond _ _⟩
  case state =>
    rw [spanOf_assemble (opByte_ne_pad hop)]
    rfl

/-- Settles O23: the argument's range check fails, and the error entry is all that happens. -/
theorem illFormedCommandEndsWithItsError : Obligations.IllFormedCommandEndsWithItsError := by
  intro s hidle
  refine ⟨fun pan tilt hout => ?coordinate, fun index hout => ⟨?retrieve, ?save⟩⟩
  case coordinate => exact exec_of_payload_error rfl (coordinatePayload_of_not_inSignedShort hout) hidle
  case retrieve => exact exec_of_payload_error rfl (presetPayload_of_not_inPreset hout) hidle
  case save => exact exec_of_payload_error rfl (presetPayload_of_not_inPreset hout) hidle

/-- Settles O26: any answer listed gives the send step a next state. -/
theorem unansweredSendIsStuck : Obligations.UnansweredSendIsStuck := by
  intro i s f hi hsend hready hframe
  rw [exec_of_send hi hsend]
  cases hanswers : s.sendAnswers with
  | nil => simp [sendStep_of_unanswered hready hframe hanswers]
  | cons answer later =>
    cases answer with
    | ok => simp [sendStep_of_ok hready hframe hanswers]
    | failed n => simp [sendStep_of_failed hready hframe hanswers]

/-- Settles O28, by the answer the receive gets. -/
theorem waitAlwaysEnds : Obligations.WaitAlwaysEnds := by
  intro i s hi hwait
  rw [exec_of_wait hi hwait]
  cases hanswer : s.recvAnswer with
  | ok bytes =>
    exact ⟨_, .ok, bytes, _, recvStep_of_reply hanswer, rfl, rfl, .inl ⟨rfl, rfl⟩, State.length_recvAnswer hanswer, rfl,
      State.readBytes_complete _ bytes, rfl, rfl, rfl⟩
  | receiveFailed =>
    exact ⟨_, .receiveFailed, [], _, recvStep_of_receiveFailed hanswer, rfl, rfl, .inr (.inl ⟨rfl, rfl, rfl⟩),
      Nat.zero_le _, rfl, rfl, rfl, rfl, rfl⟩
  | timeout =>
    exact ⟨_, .timeout, [], _, recvStep_of_timeout hanswer, rfl, rfl, .inr (.inr ⟨rfl, rfl, rfl⟩),
      Nat.zero_le _, rfl, rfl, rfl, rfl, rfl⟩

/-- Settles O50, by the answer the receive gets: only a reply is stored, from index 0. -/
theorem receiveStepLeavesTheOtherBytes : Obligations.ReceiveStepLeavesTheOtherBytes := by
  intro i s hi hwait
  rw [exec_of_wait hi hwait]
  cases hanswer : s.recvAnswer with
  | ok bytes =>
    refine ⟨_, recvStep_of_reply hanswer, rfl, fun _ => ⟨bytes, rfl, by simp, rfl⟩, fun herr => absurd rfl herr, fun a ha => ?_⟩
    simpa using Memory.read_writeBytes_beyond s.rxbuf bytes ha
  | receiveFailed => exact ⟨_, recvStep_of_receiveFailed hanswer, rfl, nofun, by simp, by simp⟩
  | timeout => exact ⟨_, recvStep_of_timeout hanswer, rfl, nofun, by simp, by simp⟩

/-- Settles O35: whatever the bytes, the receive step completes the transaction. -/
theorem replyContentSteersNothing : Obligations.ReplyContentSteersNothing := by
  intro i s b1 b2 later hi hwait
  have hreply (b : Bytes) : exec i { s with recvAnswers := .ok b :: later } =
      .next (({ s with recvAnswers := later }.record (.recv (.ok (b.take Config.RX_MAX)))).complete (b.take Config.RX_MAX)) := by
    have hanswer : State.recvAnswer { s with recvAnswers := .ok b :: later } = .ok (b.take Config.RX_MAX) := by
      rw [State.recvAnswer_of_cons rfl, cutReply]
    rw [exec_of_wait (s := { s with recvAnswers := .ok b :: later }) hi hwait, recvStep_of_reply hanswer,
      State.recvTaken_of_cons rfl]
  exact ⟨_, _, hreply b1, hreply b2, rfl, rfl, rfl, rfl, rfl, rfl⟩

/-- Settles O29: the frame is loaded, sent and answered, one step each. -/
theorem transactionSendsFrameAndReturnsReply : Obligations.TransactionSendsFrameAndReturnsReply := by
  intro i f s bytes sends recvs hencode hidle hready hsends hrecvs hlength
  obtain ⟨hcommand, -⟩ := isCommand_of_encode hencode
  obtain ⟨op, p, hop, hpayload, rfl⟩ := (encode_eq_some_iff i f).1 hencode
  have hframe := s.txFrame_loadFrame (lrc (op :: p)) (length_assemble_framePayload (op := op) hpayload)
  have hload := exec_of_payload hop hpayload hidle
  rw [spanOf_assemble (opByte_ne_pad hop)]
  generalize assemble op p = f at *
  generalize lrc (op :: p) = c at *
  have hanswers : ((s.loadFrame f c).chSend f f .ok).awaitReply.recvAnswers = .ok bytes :: recvs := hrecvs
  refine ⟨_, _, hload, (exec_of_send hcommand rfl).trans (sendStep_of_ok hready hframe hsends), ?_⟩
  rw [exec_of_wait hcommand rfl, recvStep_of_listed_reply hanswers hlength,
    State.chSend_of_cons (s := s.loadFrame f c) hsends, List.append_cons s.history (Event.send f .ok)]
  cases s
  cases hidle
  rfl

/-- Settles O36: serving the request ends the transaction at once, or loads its frame, which is then sent. -/
theorem acceptedRequestIsAnsweredInThreeSteps : Obligations.AcceptedRequestIsAnsweredInThreeSteps := by
  intro s r hhost hidle hport hanswers
  suffices hrun : ∃ k t, k ≤ 3 ∧ Host.Core.run Sys2Proof.core k s = .next t ∧ Answered s r t by
    obtain ⟨k, t, hk, hrun, hphase, hfree, hoperands, ⟨resp, hresp, hstatus, hgood⟩, hhistory⟩ := hrun
    exact ⟨k, t, resp, hk, hrun, hphase, hfree, hoperands, hresp, hstatus, hgood, hhistory⟩
  have hserve := step_of_request hhost hidle hport
  cases hpayload : payloadOf r with
  | error e =>
    rw [hpayload, beginTransaction] at hserve
    have hresp := response_of_ending (blockStep_of_step hhost hserve) (by simp)
    exact ⟨1, _, by decide, run_succ_of_step hserve 0, rfl, rfl, rfl, hresp, .inl rfl⟩
  | ok p =>
    rw [hpayload, beginTransaction] at hserve
    have hbuild := buildFrame_of_payloadOf hpayload
    obtain ⟨-, -, hlength, -⟩ := frameLengthsByCommand r _ hbuild
    have hframe := (s.accept r).txFrame_loadFrame (lrc (r.op :: p)) hlength
    obtain ⟨k, t, hk, hrun, hphase, hfree, hoperands, hresponse, hhistory⟩ :=
      answered_of_send (s := (s.accept r).loadFrame _ _) hhost rfl hframe hanswers rfl rfl hbuild
    exact ⟨k + 1, t, by omega, (run_succ_of_step hserve k).trans hrun, hphase, hfree, hoperands, hresponse, hhistory⟩

end Sys2Proof
end

section
/-! SUPPORT and the statements about the streaming unit (spec/40_lrc.md), the instruction a step runs (spec/30_encoding.md), `STATUS`, reset
and the host's acts (spec/10_state.md, spec/70_reset_and_hazards.md); O4, O5, O20, O21 and O40 to O43. -/

namespace Sys2Proof.Machine

/-! ### A run of the LRC unit (R103) -/

/-- Accumulating bytes and then reading presents the fold of the bytes into what `ACC` held. -/
theorem lrcRun_accumulate_read (bs : Bytes) (s : State) :
    lrcRun (bs.map (fun b => LrcInput.drive false true b) ++ [.read true]) s =
      .next ({ s with acc := bs.foldl lrcAcc s.acc }.present (.byte (bs.foldl lrcAcc s.acc))) := by
  induction bs generalizing s with
  | nil => rfl
  | cons b bs ih => exact ih (s.foldAcc b)

/-! ### A step's instruction (R87, R170, R171) -/

/-- In `IDLE` with a request on the port, the step is the meaning of the command the request selects (R171). -/
theorem step_of_accepted {s : State} {r : Request} {i : Instr} (hhost : s.host = []) (hidle : s.phase = .idle)
    (hport : s.port = some r) (hdecode : decodeRequest r = some i) : step s = exec i (s.accept r) := by
  rw [step_of_host_nil hhost]
  simp [blockMove, hidle, hport, hdecode, runMove]

/-- Every command has a request that selects it (log entry 19). -/
theorem decodeRequest_encodeRequest {i : Instr} (h : i.isCommand = true) :
    ∃ r, encodeRequest i = some r ∧ decodeRequest r = some i := by
  cases i with
  | computeLRC | encodeSignedShort | decodeSignedShort => cases h
  | _ => exact ⟨_, rfl, rfl⟩

/-- Only frames are read from the table's words. -/
theorem decodeTableWord_eq_some_iff (nbits w : Nat) (i : Instr) :
    decodeTableWord nbits w = some i ↔ decodeFrame (frameOfTableWord nbits w) = .ok i := by
  unfold decodeTableWord
  split <;> simp_all

/-! ### The host's list of acts (R171; log entry 1) -/

/-- An act that need not wait is taken off the list and done. -/
theorem step_of_act {s : State} {a : HostAction} {later : List HostAction} (hhost : s.host = a :: later)
    (hgo : hostWaits a s = false) : step s = runMove (hostMove a { s with host := later }) := by
  simp only [step, nextMove, hhost, hgo, Bool.false_eq_true, if_false]
  cases hostMove a { s with host := later } <;> rfl

/-- The state with `acts` left for the host to do. -/
def State.withHost (s : State) (acts : List HostAction) : State := { s with host := acts }

/-- The outcome with `acts` left for the host to do. -/
def withHost (acts : List HostAction) : Result → Result
  | .next t => .next (t.withHost acts)
  | .fault r => .fault r
  | .refused r => .refused r

theorem beginTransaction_withHost (op : Byte) (p : Except ErrCode Bytes) (s : State) (acts : List HostAction) :
    beginTransaction op p (s.withHost acts) = withHost acts (beginTransaction op p s) := by
  cases p <;> rfl

theorem sendStep_withHost (s : State) (acts : List HostAction) :
    sendStep (s.withHost acts) = withHost acts (sendStep s) := by
  cases hready : s.chReady with
  | false => rw [sendStep_of_not_ready hready]; exact sendStep_of_not_ready hready
  | true =>
    cases hframe : s.txFrame with
    | none => rw [sendStep_of_no_value hready hframe]; exact sendStep_of_no_value hready hframe
    | some f =>
      cases hanswers : s.sendAnswers with
      | nil => rw [sendStep_of_unanswered hready hframe hanswers]; exact sendStep_of_unanswered hready hframe hanswers
      | cons answer later =>
        cases answer with
        | ok => rw [sendStep_of_ok hready hframe hanswers]; exact sendStep_of_ok hready hframe hanswers
        | failed n => rw [sendStep_of_failed hready hframe hanswers]; exact sendStep_of_failed hready hframe hanswers

theorem recvStep_withHost (s : State) (acts : List HostAction) :
    recvStep (s.withHost acts) = withHost acts (recvStep s) := by
  cases hanswer : s.recvAnswer with
  | ok bytes => rw [recvStep_of_reply hanswer]; exact recvStep_of_reply hanswer
  | receiveFailed => rw [recvStep_of_receiveFailed hanswer]; exact recvStep_of_receiveFailed hanswer
  | timeout => rw [recvStep_of_timeout hanswer]; exact recvStep_of_timeout hanswer

/-- The block's move reads nothing of the host's list, and leaves it. -/
theorem runMove_blockMove_withHost (s : State) (acts : List HostAction) :
    runMove (blockMove (s.withHost acts)) = withHost acts (runMove (blockMove s)) := by
  cases hphase : s.phase with
  | idle =>
    cases hport : s.port with
    | none =>
      rw [runMove_blockMove_of_no_request hphase hport]
      exact runMove_blockMove_of_no_request hphase hport
    | some r =>
      rw [runMove_blockMove_of_request hphase hport, ← beginTransaction_withHost]
      exact runMove_blockMove_of_request hphase hport
  | send =>
    rw [runMove_blockMove_of_send hphase, ← sendStep_withHost]
    exact runMove_blockMove_of_send hphase
  | wait =>
    rw [runMove_blockMove_of_wait hphase, ← recvStep_withHost]
    exact runMove_blockMove_of_wait hphase

/-- `pass` lets the block take the step it takes when nothing is left for the host to do. -/
theorem step_of_pass {s : State} {later : List HostAction} (hhost : s.host = .pass :: later) :
    step s = withHost later (step { s with host := [] }) := by
  rw [step_of_act hhost rfl, step_of_host_nil (s := { s with host := [] }) rfl]
  exact runMove_blockMove_withHost (s.withHost []) later

end Sys2Proof.Machine

namespace Sys2Proof

open Machine

/-- Settles O4: the run is a clear, then the fold of the bytes into 0x00. -/
theorem streamingLrcMatchesWhole : Obligations.StreamingLrcMatchesWhole := by
  refine ⟨fun s bs en x => ?run, fun _ _ => rfl, fun _ _ => rfl, fun s b => ?uncleared, rfl, fun s t en b x hclear => ?cleared⟩
  case run => exact lrcRun_accumulate_read bs (s.loadAcc 0#8)
  case uncleared => simp [unclearedUse]
  case cleared =>
    cases hclear
    cases x <;> simp [unclearedUse]

/-- Settles O5: each form of the ports by its definition. -/
theorem lrcUnitCompletes : Obligations.LrcUnitCompletes := by
  intro s bs en b
  exact ⟨rfl, rfl, rfl, rfl, rfl, rfl, by simp [unclearedUse]⟩

/-- Settles O20: who moves decides what runs. -/
theorem stepRunsThePresentedInstruction : Obligations.StepRunsThePresentedInstruction := by
  refine ⟨fun s r i hhost hidle hport hdecode => step_of_accepted hhost hidle hport hdecode, fun s u later hhost => ?unit,
    fun s i hhost hbusy hi => ?busy⟩
  case unit => rw [step_of_act hhost rfl]; rfl
  case busy =>
    cases hphase : s.phase with
    | idle => exact absurd hphase hbusy
    | send => rw [step_of_send hhost hphase, exec_of_send hi hphase]
    | wait => rw [step_of_wait hhost hphase, exec_of_wait hi hphase]

/-- Settles O21: what a word decodes to is a command, and so has a request, which the step accepts. -/
theorem wordOnPortRunsItsCommand : Obligations.WordOnPortRunsItsCommand := by
  intro s nbits w i hword
  obtain ⟨-, hcommand, -⟩ := recognisedFrameIsTheEncoding _ i ((decodeTableWord_eq_some_iff nbits w i).1 hword)
  obtain ⟨r, hencode, hdecode⟩ := decodeRequest_encodeRequest hcommand
  refine ⟨r, hencode, hdecode, ?_⟩
  have hrequest : requestOfWord nbits w = some r := by simp [requestOfWord, hword, hencode]
  rw [State.withFetchWord, hrequest]
  exact step_of_accepted rfl rfl rfl hdecode

/-- Settles O40: the numbers by the table, and the two fields of an appended word. -/
theorem statusBitsAreErrAndSent : Obligations.StatusBitsAreErrAndSent := by
  refine ⟨rfl, fun ⟨err, sent⟩ => ?_⟩
  cases err <;> cases sent <;> decide

/-- Settles O41: reset lists no byte of either buffer. -/
theorem resetHoldsTheGivenValues : Obligations.ResetHoldsTheGivenValues :=
  ⟨rfl, rfl, rfl, rfl, rfl, rfl, fun _ => ⟨rfl, rfl⟩⟩

/-- Settles O42: the step is one with `rst` asserted. -/
theorem resetAbandonsTheTransaction : Obligations.ResetAbandonsTheTransaction := by
  intro s later hhost
  have hstep : step s = .next { s with host := later }.assertReset := step_of_act hhost rfl
  refine ⟨_, hstep, rfl, rfl, rfl, rfl, rfl, fun _ => ⟨rfl, rfl⟩, by simp, by simp, by simp, by simp, ?wait, ?other⟩
  case wait => intro hwait; simp [hwait]
  case other => intro hnot; simp [hnot]

/-- Settles O43: an act that need not wait is what the step does; `pass` leaves the step to the block. -/
theorem hostActsChangeTheirOwnState : Obligations.HostActsChangeTheirOwnState := by
  intro s later
  refine ⟨fun v hhost => ?tmo, fun hhost => ?connect, fun hhost => ?failed, fun hhost => ?close, fun r hhost hport => ?present,
    fun hhost => ?pass⟩
  case tmo => exact step_of_act hhost rfl
  case connect => rw [step_of_act hhost rfl, hostMove, Bool.or_true]; rfl
  case failed => rw [step_of_act hhost rfl, hostMove, Bool.or_false]; rfl
  case close => exact step_of_act hhost rfl
  case present => exact step_of_act hhost (by rw [hostWaits, hport]; rfl)
  case pass =>
    rw [step_of_pass hhost]
    exact ⟨fun t ht => by rw [ht]; rfl, fun r hr => by rw [hr]; rfl⟩

end Sys2Proof
end
